-- ==== Sys2Proof/Word.lean ====
section
/-! DEFINITION. Word.lean: the plain types of the Kwelmar 2240's lines and words, and the one table builder. -/

namespace Sys2Proof

/-- One 32-bit word of the frame store or of the service area (Scope, Words). -/
abbrev Word := BitVec 32

/-- One byte, as a tile status frame carries it (9.1). -/
abbrev Byte := BitVec 8

/-- One 4-bit group of a sensor sample frame (5.1). -/
abbrev Nibble := BitVec 4

/-- The four byte-mask lines of a beat: bit i set means the mask line of byte lane i is asserted. -/
abbrev Mask := BitVec 4

/-- The stamp: the 32-bit millisecond count of R65. -/
abbrev Stamp := BitVec 32

/-- A row number 0..8,191 of the frame store. -/
abbrev Row := BitVec 13

/-- A column number 0..511 of the frame store. -/
abbrev Column := BitVec 9

/-- A fixed number of like things, each given by its index. -/
def tabulate {α : Type} {n : Nat} (f : Fin n → α) : Vector α n := ⟨⟨List.ofFn f⟩, by simp⟩

end Sys2Proof
end

