-- ==== Sys2Proof/Syntax.lean ====
section
/-! DEFINITION. Syntax.lean: the commands of the block, one constructor per row of spec/opcode_table.json, and
the operand types they carry. A position of the bus is made of at most one read return, one bus command and one
burst beat (R3), each of them a command of its own here. -/

namespace Sys2Proof

/-- The six strap pins as four codes (2.1). -/
structure Straps where
  /-- SVC code 0..3: position of the service area. -/
  svc : BitVec 2
  /-- MAP code: false 0 ROW-BANK-COLUMN, true 1 BANK-ROW-COLUMN. -/
  map : Bool
  /-- FB code 0..3: fallback level. -/
  fb : BitVec 2
  /-- CLK code: false 0 (25 MHz), true 1 (50 MHz). -/
  clk : Bool
deriving DecidableEq, Repr

/-- The four mode codes that a MODE-LOAD and the mode declaration word both carry (1.4). -/
structure ModeCodes where
  /-- Burst-length code 0..7. -/
  length : BitVec 3
  /-- Order code: false SEQUENTIAL, true INTERLEAVED. -/
  interleaved : Bool
  /-- Read latency code 0..7, in positions. -/
  latency : BitVec 3
  /-- Write-single code. -/
  writeSingle : Bool
deriving DecidableEq, Repr

/-- The commands of the Kwelmar 2240, in the order of spec/opcode_table.json. -/
inductive Instr where
  /-- POWER_ON_RESET (R63). -/
  | powerOnReset
  /-- RESET_LINE (R22): the reset line is asserted. -/
  | resetLine
  /-- RESET_RELEASE (R23): the part leaves reset and samples the strap pins. -/
  | resetRelease (straps : Straps)
  /-- SUSPEND (R1). -/
  | suspend
  /-- RESUME (R1). -/
  | resume
  /-- OPEN (R4). -/
  | openBank (bank : Fin 4) (row : Row)
  /-- READ (R15). -/
  | read (bank : Fin 4) (column : Column) (autoclose : Bool)
  /-- WRITE (R19), with the data and mask lines of its first beat. -/
  | write (bank : Fin 4) (column : Column) (autoclose : Bool) (data : Word) (mask : Mask)
  /-- CLOSE (R5). -/
  | close (bank : Fin 4)
  /-- CLOSE_ALL (R5). -/
  | closeAll
  /-- REFRESH (R6). -/
  | refresh
  /-- SLEEP_ENTER (R2). -/
  | sleepEnter
  /-- SLEEP_EXIT (R2). -/
  | sleepExit
  /-- MODE_LOAD (R7, R8), with the four codes of the address lines. -/
  | modeLoad (codes : ModeCodes)
  /-- BURST_STOP (R12). -/
  | burstStop
  /-- NO_OPERATION (R3): a deselect or no-operation fills a position. -/
  | noOperation
  /-- BURST_BEAT_ISSUE (R11), with the controller's data and mask lines. -/
  | burstBeatIssue (data : Word) (mask : Mask)
  /-- BURST_COMPLETE (R13): the issue of the last beat of a fixed-length burst. -/
  | burstComplete (data : Word) (mask : Mask)
  /-- READ_BEAT_RETURN (R16): the store's word, the mask lines, and whether the controller drives a write beat (R18). -/
  | readBeatReturn (data : Word) (mask : Mask) (ctrlDrives : Bool)
  /-- UNPLACED_ARRIVAL (R18), with the same lines. -/
  | unplacedArrival (data : Word) (mask : Mask) (ctrlDrives : Bool)
  /-- STAGING_WRITE (R37): a write beat at a staged policy offset. -/
  | stagingWrite (offset : Fin 2048) (data : Word) (mask : Mask)
  /-- TIME_WORD_WRITE (R40). -/
  | timeWordWrite (data : Word) (mask : Mask)
  /-- MODE_DECLARATION (R41). -/
  | modeDeclaration (data : Word) (mask : Mask)
  /-- COMMIT_REQUEST (R54). -/
  | commitRequest (data : Word) (mask : Mask)
  /-- VALIDATION_FAILURE (R58). -/
  | validationFailure
  /-- SWITCH (R59). -/
  | switch
  /-- RESTART_REQUEST (R43). -/
  | restartRequest (data : Word) (mask : Mask)
  /-- MONITOR_RESTART (R167). -/
  | monitorRestart
  /-- RUN (R44): a face mode write of code RUN. -/
  | run (face : Fin 8) (catchUp : Bool) (mask : Mask)
  /-- HOLD (R44). -/
  | hold (face : Fin 8) (catchUp : Bool) (mask : Mask)
  /-- BLANK (R44). -/
  | blank (face : Fin 8) (catchUp : Bool) (mask : Mask)
  /-- DARK (R45). -/
  | dark (face : Fin 8) (catchUp : Bool) (mask : Mask)
  /-- RELEASE (R46). -/
  | release (face : Fin 8) (catchUp : Bool) (mask : Mask)
  /-- ONE_MS_EVENT (R64). -/
  | oneMsEvent
  /-- DIMMING_TICK (R69, R87): the Level Engine takes the raised tick. -/
  | dimmingTick
  /-- SENSOR_FRAME_ARRIVAL (R76): the six nibbles in order of arrival. -/
  | sensorFrameArrival (n0 n1 n2 n3 n4 n5 : Nibble)
  /-- SENSOR_INCOMPLETE_FRAME (R75). -/
  | sensorIncompleteFrame
  /-- STALE_TIMER_EXPIRY (R82). -/
  | staleTimerExpiry (channel : Fin 4)
  /-- STALL_TIMER_EXPIRY (R130). -/
  | stallTimerExpiry (face : Fin 8)
  /-- TILE_FRAME_ARRIVAL (R138): the five bytes in order of arrival. -/
  | tileFrameArrival (b0 b1 b2 b3 b4 : Byte)
  /-- TILE_INCOMPLETE_FRAME (R137). -/
  | tileIncompleteFrame
  /-- SILENT_TIMER_EXPIRY (R142), naming the tile by its face and its number within the face. -/
  | silentTimerExpiry (face : Fin 8) (tile : Fin 32)
  /-- RECORD (R148): the Constraint Block takes the oldest record handed to it. -/
  | record
  /-- CHOICE (R159). -/
  | choice
  /-- WRITE_END (R160). -/
  | writeEnd
  /-- ACKNOWLEDGMENT (R161): a write of EMPTY to a slot's header word. -/
  | acknowledgment (slot : Fin 32) (mask : Mask)
  /-- SLOT_INACTIVE (R161): a write of INACTIVE to a slot's header word. -/
  | slotInactive (slot : Fin 32) (mask : Mask)
  /-- FILTER_WRITE (R162). -/
  | filterWrite (slot : Fin 32) (data : Word) (mask : Mask)
  /-- HEADER_READ (R163): a delivered read of a slot's header word. -/
  | headerRead (slot : Fin 32)
  /-- STAMP_WORD_READ (R163): a delivered read of the header item's stamp word. -/
  | stampWordRead
  /-- RESERVED_WRITE (R169): a write beat at a reserved service-area offset. -/
  | reservedWrite (offset : Fin 4096) (data : Word) (mask : Mask)
deriving DecidableEq, Repr

end Sys2Proof
end

