-- ==== Sys2Proof/Config.lean ====
section
/-! DEFINITION. Config.lean: what the straps select, and the two orders that the spec leaves open inside one
event, each an opaque constant that nothing can evaluate. -/

namespace Sys2Proof

/-- The service area base word that the SVC code selects (2.1, R24). -/
def Config.serviceBase (p : Straps) : Nat :=
  if p.svc = 0 then 0 else if p.svc = 1 then 4194304 else if p.svc = 2 then 8388608 else 16773120

/-- The fallback level that the FB code selects (R26). -/
def Config.fallbackLevel (p : Straps) : Nat :=
  if p.fb = 0 then 0 else if p.fb = 1 then 512 else if p.fb = 2 then 1024 else 2048

/-- The prescaler's divisor that the CLK code selects (R64). -/
def Config.divisor (p : Straps) : Nat := if p.clk then 50000 else 25000

/-- Words of the frame store (System Context). -/
def Config.storeWords : Nat := 16777216

/-- FREE VALUE (R112, worked sequence of Chapter 10; log 9): whether, at the n-th such choice, an automatic
release that unblanks a face, its completion taken at once, is taken before the starting beat of the same frame start. -/
opaque Config.releaseBeforeBeat : Nat → Bool

/-- FREE VALUE (R124, R136, R167; log 10): whether, at the n-th such choice, a pending monitor restart takes
effect before the delivered beat whose return empties the read-return queue. -/
opaque Config.restartBeforeBeat : Nat → Bool

end Sys2Proof
end

