-- ==== Sys2Proof/Machine/Layout.lean ====
section
/-! DEFINITION. Machine/Layout.lean: bit fields, byte lanes and saturating counts, as the Conventions and
Chapter 12 use them. -/

namespace Sys2Proof.Machine

/-- The field of a word that starts at bit `lo` and is `n` bits wide (Chapter 12: fields are unsigned binary). -/
def bits (w : Word) (lo n : Nat) : Nat := (w.toNat >>> lo) % 2 ^ n

/-- A word with value `v` in the field at bit `lo`, `n` bits wide, and 0 elsewhere. -/
def put (lo n v : Nat) : Word := BitVec.ofNat 32 ((v % 2 ^ n) * 2 ^ lo)

/-- A word with one flag at bit `lo`. -/
def putBit (lo : Nat) (b : Bool) : Word := put lo 1 b.toNat

/-- All bits of the byte lanes whose mask line is not asserted (R35). -/
def openLanes (m : Mask) : Word :=
  (if m.getLsbD 0 then 0 else 0x000000FF#32) ||| (if m.getLsbD 1 then 0 else 0x0000FF00#32)
    ||| (if m.getLsbD 2 then 0 else 0x00FF0000#32) ||| (if m.getLsbD 3 then 0 else 0xFF000000#32)

/-- Each unmasked lane of the beat replaces the same lane of the word (R37, R162). -/
def mergeLanes (old data : Word) (m : Mask) : Word := (old &&& ~~~openLanes m) ||| (data &&& openLanes m)

/-- None of the four mask lines is asserted (R39, R161). -/
def whole (m : Mask) : Bool := m == 0#4

/-- All four lanes are masked. -/
def allMasked (m : Mask) : Bool := m == 0xF#4

/-- A count raised by 1, stopping at `cap` (Conventions, Arithmetic). -/
def satInc (cap n : Nat) : Nat := if n < cap then n + 1 else n

/-- The greatest value of the part's 16-bit saturating counts. -/
def max16 : Nat := 65535

end Sys2Proof.Machine
end

