-- ==== Sys2Proof/Machine/Tables.lean ====
section
/-! DEFINITION. Machine/Tables.lean: the six staged sections of the policy page as the words the part keeps, the
policy offsets that reach them, the defined bits of each word, and the named fields (3.3, 12.4). -/

namespace Sys2Proof.Machine

/-- The six sections of the policy page. -/
inductive Sec where
  | F | C | S | Z | A | G
deriving DecidableEq, Repr

/-- One word for each defined word of the six sections (3.1). -/
structure Tables where
  /-- Section F: words 0..8 of the eight face records. -/
  faces : Vector (Vector Word 9) 8
  /-- Section C: the count word and 16 point words of the four curves. -/
  curves : Vector (Vector Word 17) 4
  /-- Section S: the two words of the 32 schedule entries. -/
  schedule : Vector (Vector Word 2) 32
  /-- Section Z: the 16 zone trims of the eight faces. -/
  trims : Vector (Vector Word 16) 8
  /-- Section A: the action words of class codes 0..31. -/
  actions : Vector Word 32
  /-- Section G: the seven general parameters. -/
  params : Vector Word 7
deriving DecidableEq, Repr

/-- A defined staged word, named by its place in its section. -/
inductive StagedAddr where
  | face (f : Fin 8) (w : Fin 9)
  | curve (k : Fin 4) (w : Fin 17)
  | sched (e : Fin 32) (w : Fin 2)
  | trim (f : Fin 8) (z : Fin 16)
  | action (c : Fin 32)
  | param (p : Fin 7)
deriving DecidableEq, Repr

/-- The section that holds a staged word. -/
def StagedAddr.sec : StagedAddr → Sec
  | .face _ _ => .F
  | .curve _ _ => .C
  | .sched _ _ => .S
  | .trim _ _ => .Z
  | .action _ => .A
  | .param _ => .G

/-- The defined staged word at a policy offset; none at an immediate or reserved offset (table of Chapter 3,
R48 to R53, 12.4). -/
def stagedAddr (off : Nat) : Option StagedAddr :=
  if off < 16 then none
  else if off < 144 then
    if h : (off - 16) % 16 < 9 then some (.face (Fin.ofNat 8 ((off - 16) / 16)) ⟨(off - 16) % 16, h⟩) else none
  else if off < 272 then
    if h : (off - 144) % 32 < 17 then some (.curve (Fin.ofNat 4 ((off - 144) / 32)) ⟨(off - 144) % 32, h⟩) else none
  else if off < 336 then some (.sched (Fin.ofNat 32 ((off - 272) / 2)) (Fin.ofNat 2 (off - 272)))
  else if off < 464 then some (.trim (Fin.ofNat 8 ((off - 336) / 16)) (Fin.ofNat 16 (off - 336)))
  else if off < 496 then some (.action (Fin.ofNat 32 (off - 464)))
  else if h : off - 496 < 7 then some (.param ⟨off - 496, h⟩)
  else none

/-- The bits of a staged word that hold defined fields (12.4); the others are reserved and dropped (R169). -/
def definedBits : StagedAddr → Word
  | .face _ w =>
    match w.val with
    | 0 => 0x00000F37#32
    | 1 => 0x00FFFFFF#32
    | 2 => 0x00FFFFFF#32
    | 3 => 0x07FF0FFF#32
    | 4 => 0x0000000F#32
    | 5 => 0xFFFFFFFF#32
    | 6 => 0x0000FFFF#32
    | 7 => 0x0FFF0FFF#32
    | _ => 0x000003FF#32
  | .curve _ w => if w.val = 0 then 0x0000001F#32 else 0x1FFFFFFF#32
  | .sched _ w => if w.val = 0 then 0x3FFFFF01#32 else 0x0000FFFF#32
  | .trim _ _ => 0x000001FF#32
  | .action _ => 0x00000103#32
  | .param _ => 0x0000FFFF#32

/-- The word at a place of the tables. -/
def Tables.get (t : Tables) : StagedAddr → Word
  | .face f w => t.faces[f][w]
  | .curve k w => t.curves[k][w]
  | .sched e w => t.schedule[e][w]
  | .trim f z => t.trims[f][z]
  | .action c => t.actions[c]
  | .param p => t.params[p]

/-- The tables with another word at one place. -/
def Tables.put (t : Tables) (a : StagedAddr) (v : Word) : Tables :=
  match a with
  | .face f w => { t with faces := t.faces.set f (t.faces[f].set w v) }
  | .curve k w => { t with curves := t.curves.set k (t.curves[k].set w v) }
  | .sched e w => { t with schedule := t.schedule.set e (t.schedule[e].set w v) }
  | .trim f z => { t with trims := t.trims.set f (t.trims[f].set z v) }
  | .action c => { t with actions := t.actions.set c v }
  | .param p => { t with params := t.params.set p v }

/-- A lane-wise write of a staged word: each unmasked lane takes the defined fields of the beat and drops the
reserved bits (R37, R169). -/
def Tables.merge (t : Tables) (a : StagedAddr) (data : Word) (m : Mask) : Tables :=
  t.put a (mergeLanes (t.get a) (data &&& definedBits a) m)

/-! ### Section F -/

/-- The fields of a face record (R48, 12.4). -/
structure FaceRecord where
  enabled : Bool
  /-- Combine rule: true MIN, false MAX. -/
  combineMin : Bool
  curve : Fin 4
  sensorMask : BitVec 4
  baseA : Nat
  /-- Buffer B base, none where buffer B present is clear. -/
  baseB : Option Nat
  width : Nat
  height : Nat
  strideExp : Nat
  rise : Nat
  fall : Nat
  fast : Nat
  loss : Nat
  derate : Nat
  aplLimit : Nat
deriving DecidableEq, Repr

/-- Face f's record read from its nine words. -/
def Tables.face (t : Tables) (f : Fin 8) : FaceRecord :=
  let r := t.faces[f]
  { enabled := r[0].getLsbD 0
    combineMin := r[0].getLsbD 2
    curve := Fin.ofNat 4 (bits r[0] 4 2)
    sensorMask := BitVec.ofNat 4 (bits r[0] 8 4)
    baseA := bits r[1] 0 24
    baseB := if r[0].getLsbD 1 then some (bits r[2] 0 24) else none
    width := bits r[3] 0 12
    height := bits r[3] 16 11
    strideExp := bits r[4] 0 4
    rise := bits r[5] 0 16
    fall := bits r[5] 16 16
    fast := bits r[6] 0 16
    loss := bits r[7] 0 12
    derate := bits r[7] 16 12
    aplLimit := bits r[8] 0 10 }

/-- The stride of a record: 2 to the stride exponent (R48). -/
def FaceRecord.stride (r : FaceRecord) : Nat := 2 ^ r.strideExp

/-! ### Sections C, S, Z, A, G -/

/-- The count n of curve k (R49). -/
def Tables.curveCount (t : Tables) (k : Fin 4) : Nat := bits t.curves[k][0] 0 5

/-- The light code and level of a point word (12.4). -/
def pointOf (w : Word) : Nat × Nat := (bits w 0 16, bits w 16 13)

/-- The points 0..n-1 of curve k (R49). -/
def Tables.curvePoints (t : Tables) (k : Fin 4) : List (Nat × Nat) :=
  ((t.curves[k].toList.drop 1).take (t.curveCount k)).map pointOf

/-- The fields of a schedule entry (R50). -/
structure SchedEntry where
  used : Bool
  faces : BitVec 8
  start : Nat
  cap : Nat
deriving DecidableEq, Repr

/-- A schedule entry read from its two words. -/
def schedOf (w : Vector Word 2) : SchedEntry :=
  { used := w[0].getLsbD 0, faces := BitVec.ofNat 8 (bits w[0] 8 8), start := bits w[0] 16 14, cap := bits w[1] 0 16 }

/-- The schedule entries 0..31 in order. -/
def Tables.entries (t : Tables) : List SchedEntry := t.schedule.toList.map schedOf

/-- The trim of a zone of a face (R51). -/
def Tables.trim (t : Tables) (f : Fin 8) (z : Fin 16) : Nat := bits t.trims[f][z] 0 9

/-- What the action table prescribes for a class (R52). -/
inductive Action where
  | none | report | derate | blank
deriving DecidableEq, Repr

/-- The action held in an action word (12.4). -/
def actionOf (w : Word) : Action :=
  match bits w 0 2 with
  | 0 => .none
  | 1 => .report
  | 2 => .derate
  | _ => .blank

/-- The action of a class code. -/
def Tables.action (t : Tables) (c : Fin 32) : Action := actionOf t.actions[c]

/-- The latch flag of a class code. -/
def Tables.latch (t : Tables) (c : Fin 32) : Bool := t.actions[c].getLsbD 8

/-- A general parameter (R53). -/
def Tables.param (t : Tables) (p : Fin 7) : Nat := bits t.params[p] 0 16

/-- Unset cap, word 0 of section G. -/
def Tables.unsetCap (t : Tables) : Nat := t.param 0
/-- Stall window in ms, word 1. -/
def Tables.stallWindow (t : Tables) : Nat := t.param 1
/-- Minimum dwell in ms, word 2. -/
def Tables.minDwell (t : Tables) : Nat := t.param 2
/-- Clean frames, word 3. -/
def Tables.cleanFrames (t : Tables) : Nat := t.param 3
/-- Stale timeout in ms, word 4. -/
def Tables.staleTimeout (t : Tables) : Nat := t.param 4
/-- Tile silent timeout in ms, word 5. -/
def Tables.silentTimeout (t : Tables) : Nat := t.param 5
/-- APL tolerance, word 6. -/
def Tables.aplTolerance (t : Tables) : Nat := t.param 6

/-! ### The default tables of R63 -/

/-- The class codes that have a defined class (R52). -/
def definedClass (c : Nat) : Bool :=
  c == 1 || c == 2 || c == 3 || c == 4 || c == 8 || c == 9 || c == 10 || c == 16 || c == 17 || c == 18 || c == 19
    || c == 20 || c == 24 || c == 25

/-- The default action word of a class code: DERATE for 18, REPORT for the other defined classes, else NONE. -/
def defaultAction (c : Nat) : Word := if c = 18 then 2#32 else if definedClass c then 1#32 else 0#32

/-- The default general parameters. -/
def defaultParam (p : Nat) : Word :=
  match p with
  | 0 => 1024#32
  | 1 => 200#32
  | 2 => 6000#32
  | 3 => 64#32
  | 4 => 2000#32
  | 5 => 10000#32
  | _ => 8#32

/-- The default word w of curve k: curve 0 has the points (0, 200) and (25,000, 4,095). -/
def defaultCurve (k w : Nat) : Word :=
  if k = 0 then
    match w with
    | 0 => 2#32
    | 1 => put 16 13 200
    | 2 => put 0 16 25000 ||| put 16 13 4095
    | _ => 0#32
  else 0#32

/-- The default tables (R63). -/
def defaultTables : Tables :=
  { faces := tabulate fun _ => tabulate fun _ => 0#32
    curves := tabulate fun k => tabulate fun w => defaultCurve k.val w.val
    schedule := tabulate fun _ => tabulate fun _ => 0#32
    trims := tabulate fun _ => tabulate fun _ => 256#32
    actions := tabulate fun c => defaultAction c.val
    params := tabulate fun p => defaultParam p.val }

/-! ### Naming sections -/

/-- The bit of a section in a commit word's section mask (12.3). -/
def Sec.bit : Sec → Nat
  | .F => 0
  | .C => 1
  | .S => 2
  | .Z => 3
  | .A => 4
  | .G => 5

/-- A section mask names a section. -/
def names (m : BitVec 6) (x : Sec) : Bool := m.getLsbD x.bit

/-- The resulting set: the staged form of each named section with the active form of the others (R56). -/
def resultingSet (m : BitVec 6) (staged active : Tables) : Tables :=
  { faces := if names m .F then staged.faces else active.faces
    curves := if names m .C then staged.curves else active.curves
    schedule := if names m .S then staged.schedule else active.schedule
    trims := if names m .Z then staged.trims else active.trims
    actions := if names m .A then staged.actions else active.actions
    params := if names m .G then staged.params else active.params }

end Sys2Proof.Machine
end

