-- ==== Sys2Proof/Machine/State.lean ====
section
/-! DEFINITION. Machine/State.lean: every piece of state the spec gives the Kwelmar 2240, as plain data, the
reasons a step can stop, and the state after power-on reset. -/

namespace Sys2Proof.Machine

/-- No rule of the spec stops the machine, so there is no fault: the type has no constructor. -/
inductive Fault where
deriving DecidableEq, Repr

/-- The reasons for which a command is rejected. -/
inductive Refusal where
  /-- Raised by an arm of exec whose command has no meaning yet; safe, since nothing is claimed of it. -/
  | notModelled (mnemonic : String)
deriving DecidableEq, Repr

/-! ### Timers and the time base (Chapter 4) -/

/-- A timer of the part (R66): stopped, halted by a sleeping store (R131), or running with the number of 1 ms events
left until it expires; `running 0` is a timer whose last 1 ms event has been taken and whose expiry is due. -/
inductive Timer where
  | stopped
  | halted
  | running (left : Nat)
deriving DecidableEq, Repr

/-- Time-of-day (4.2): UNSET or SET, with a minute-of-week and a millisecond-in-minute. -/
structure TimeOfDay where
  set : Bool
  minute : Nat
  ms : Nat
deriving DecidableEq, Repr

/-- The Time Base (R74). -/
structure TimeBase where
  /-- Reference-clock cycles counted since the last 1 ms event. -/
  prescaler : Nat
  stamp : Stamp
  tod : TimeOfDay
  /-- The tick phase 0..99. -/
  phase : Nat
  /-- The dimming tick has been raised and the Level Engine has not taken it yet (R69, R87). -/
  tickRaised : Bool
deriving DecidableEq, Repr

/-! ### The Bus Tracker (Chapter 1) -/

/-- An entry of the bank table (1.3). -/
inductive Bank where
  | unknown
  | idle
  | opened (row : Row)
deriving DecidableEq, Repr

/-- The burst length of the mode image (1.4). -/
inductive BurstLength where
  | one | two | four | eight | fullRow
deriving DecidableEq, Repr

/-- The burst order of the mode image (1.4). -/
inductive BurstOrder where
  | sequential | interleaved
deriving DecidableEq, Repr

/-- Where the mode image came from (1.4). -/
inductive ModeSource where
  | unknown | declared | loaded
deriving DecidableEq, Repr

/-- The mode image (1.4). -/
structure ModeImage where
  length : BurstLength
  order : BurstOrder
  /-- Read latency in positions. -/
  latency : Nat
  writeSingle : Bool
  source : ModeSource
deriving DecidableEq, Repr

/-- An entry of the read-return queue (1.6). -/
structure ReadEntry where
  bank : Fin 4
  /-- The bank's row at the READ; none when the bank was UNKNOWN. -/
  row : Option Row
  start : Column
  length : BurstLength
  order : BurstOrder
  issued : Nat
  returned : Nat
  autoclose : Bool
  truncated : Bool
  /-- The burst has neither completed nor been ended: it is the read burst in flight. -/
  issuing : Bool
deriving DecidableEq, Repr

/-- The write burst in flight (1.7). The next column and the beats remaining follow from the start column, the
length, the order and the beats issued. -/
structure WriteBurst where
  bank : Fin 4
  /-- The bank's row at the WRITE; none when the bank was UNKNOWN or IDLE. -/
  row : Option Row
  start : Column
  /-- The burst's length; full row for a burst whose length is not known. -/
  length : BurstLength
  order : BurstOrder
  issued : Nat
  autoclose : Bool
  /-- Clear for a burst started while LOST (R19). -/
  lengthKnown : Bool
deriving DecidableEq, Repr

/-- The store state (R1, R2). -/
inductive StoreState where
  | awake | suspended | asleep
deriving DecidableEq, Repr

/-- The Bus Tracker's state (R22). -/
structure Tracker where
  banks : Vector Bank 4
  mode : ModeImage
  /-- The read-return queue, oldest first. -/
  queue : List ReadEntry
  /-- For each read beat issued and not returned, oldest first, the position at which it is due (R16). -/
  due : List Nat
  write : Option WriteBurst
  store : StoreState
  /-- The number of positions taken since reset: the last position whose command has been taken. -/
  position : Nat
  /-- The beat issue of the current position has been handled (R3, third item). -/
  beatDone : Bool
  /-- The edge of the next position has come, with clock-enable high: the edge of a RESUME, whose command has not come
  yet (R1). -/
  resumed : Bool
  /-- The read data of the next position have come already (R3, first item). -/
  arrived : Bool
deriving DecidableEq, Repr

/-! ### The Address Classifier (Chapter 2) -/

/-- A face's entry of the region table (2.3). -/
structure Region where
  configured : Bool
  baseA : Nat
  baseB : Option Nat
  width : Nat
  height : Nat
  stride : Nat
deriving DecidableEq, Repr

/-! ### The Policy Block (Chapter 3) -/

/-- The mode of a face (3.2). -/
inductive Mode where
  | run | hold | blank | dark
deriving DecidableEq, Repr

/-- The section mask and sequence of the most recent commit started (R42). -/
structure CommitWord where
  mask : BitVec 6
  seq : Byte
deriving DecidableEq, Repr

/-- The state of the commit status record (3.4). -/
inductive CommitState where
  | idle | inFlight | accepted | rejected
deriving DecidableEq, Repr

/-- The reason codes 1..12 of R56. -/
inductive Reason where
  | faceGeometry | faceOverlap | faceInService | faceCurveUnused | rateZero | curveCount | curveOrder
  | scheduleRange | scheduleDuplicate | trimRange | actionCode | parameterRange
deriving DecidableEq, Repr

/-- The commit status record (3.4); `failure` is the reason and section of a rejection. -/
structure CommitStatus where
  seq : Byte
  state : CommitState
  failure : Option (Reason × Sec)
  lost : Nat
deriving DecidableEq, Repr

/-- The Policy Block's tables and commit (R62). A commit is in flight while the status is IN FLIGHT; its sequence,
mask and lost-write count stand in the status record and the commit word. -/
structure Policy where
  staging : Tables
  active : Tables
  commitWord : CommitWord
  status : CommitStatus
  refused : Nat
deriving DecidableEq, Repr

/-! ### The Light Channels (Chapter 5) -/

/-- Whether a channel is heard recently enough to be used (5.2). -/
inductive Freshness where
  | fresh | stale
deriving DecidableEq, Repr

/-- A light channel (5.2). The filtered value follows from the window. -/
structure Channel where
  state : Freshness
  heard : Bool
  /-- The last good light codes, oldest first. -/
  window : List Nat
  timer : Timer
  lastGood : Option Stamp
  consecBad : Nat
  badActive : Bool
  satRun : Bool
  samples : Nat
  bad : Nat
deriving DecidableEq, Repr

/-- The Light Channels block (R85). -/
structure Light where
  channels : Vector Channel 4
  shortFrames : Nat
deriving DecidableEq, Repr

/-! ### Per-face state: Level Engine, Pixel Scaler, Scan Supervisor, Constraint Block -/

/-- The level state of a face (6.1). The output level Q follows from P. -/
structure LevelState where
  /-- The held level P in 1/256 level units. -/
  held : Nat
  catchUp : Bool
  /-- Published light; none is no light. -/
  light : Option Nat
  /-- Published curve level C. -/
  curve : Nat
  /-- Published cap K. -/
  cap : Nat
  /-- Published target T. -/
  target : Nat
deriving DecidableEq, Repr

/-- The Pixel Scaler's state of a face (7.1). -/
structure PixelState where
  factor : Nat
  aplFactor : Nat
  /-- The frame is OPEN; clear is NONE. -/
  frameOpen : Bool
  count : Nat
  sumIn : Nat
  sumOut : Nat
  aplIn : Nat
  aplOut : Nat
  frames : BitVec 32
deriving DecidableEq, Repr

/-- The scan state of a face (8.1). -/
inductive ScanMode where
  | noSignal | scanning | stalled
deriving DecidableEq, Repr

/-- A buffer of a face. -/
inductive Buffer where
  | A | B
deriving DecidableEq, Repr

/-- The scan monitor of a face (8.1). -/
structure ScanState where
  state : ScanMode
  displayed : Buffer
  lastLine : Nat
  linesSeen : Nat
  lastFlip : Stamp
  timer : Timer
  liveWrites : Nat
deriving DecidableEq, Repr

/-- A cause (10.3). -/
structure Cause where
  cls : Nat
  src : Nat
  /-- The condition still stands. -/
  cond : Bool
  latch : Bool
deriving DecidableEq, Repr

/-- The Constraint Block's state of a face (10.3, R152). -/
structure CauseState where
  blank : List Cause
  derate : List Cause
  clean : Nat
deriving DecidableEq, Repr

/-- Everything the part holds for one face. -/
structure FaceState where
  mode : Mode
  level : LevelState
  pixel : PixelState
  scan : ScanState
  causes : CauseState
deriving DecidableEq, Repr

/-! ### The Tile Link (Chapter 9) -/

/-- An entry of the tile table (9.2). Bits 0..3 of the status set are OPEN, SHORT, HOT and SUPPLY (12.7). -/
structure TileEntry where
  heard : Bool
  status : BitVec 4
  openCount : Byte
  temp : Byte
  silent : Bool
  timer : Timer
deriving DecidableEq, Repr

/-- The Tile Link (R146): the 32 entries of each of the eight faces, and the two link counts. -/
structure TileLink where
  entries : Vector (Vector TileEntry 32) 8
  errors : Nat
  discarded : Nat
deriving DecidableEq, Repr

/-! ### Records, the Constraint Block's inbox and the Report Block (Chapters 10 and 11) -/

/-- The event of a record (R147). -/
inductive EventKind where
  | onset | clear | occurrence
deriving DecidableEq, Repr

/-- A record (R147). -/
structure Record where
  key : BitVec 16
  event : EventKind
  value : BitVec 16
  stamp : Stamp
  /-- Minute-of-week, or 0xFFFF while time-of-day is UNSET (R70). -/
  minute : BitVec 16
deriving DecidableEq, Repr

/-- What the monitors hand to the Constraint Block: a record (R147), a frame completion (R114) or the end of a
face's SCAN STALL condition without a record (R133, R134). -/
inductive Notice where
  | record (r : Record)
  | completion (face : Fin 8)
  | stallEnded (face : Fin 8)
deriving DecidableEq, Repr

/-- The code of a report slot (11.2). -/
inductive SlotCode where
  | inactive | empty | full | overrun | busy
deriving DecidableEq, Repr

/-- While a slot is BUSY, the code and overwrite count it had at its choice (11.2). -/
structure Former where
  code : SlotCode
  overwrites : Nat
deriving DecidableEq, Repr

/-- A report slot (11.2). -/
structure Slot where
  code : SlotCode
  former : Option Former
  filterKey : BitVec 16
  filterMask : BitVec 16
  record : Option Record
  overwrites : Nat
deriving DecidableEq, Repr

/-- The Report Block (R168). The writer is WRITING while it holds a record and a slot number. -/
structure Report where
  queue : List Record
  drop : Nat
  writer : Option (Record × Fin 32)
  slots : Vector Slot 32
  lock : Option (Fin 32)
  restartPending : Bool
deriving DecidableEq, Repr

/-! ### The two sides of the bus -/

/-- A bus command as it is re-driven toward the store (1.2). -/
inductive BusCommand where
  | openBank (bank : Fin 4) (row : Row)
  | read (bank : Fin 4) (column : Column) (autoclose : Bool)
  | write (bank : Fin 4) (column : Column) (autoclose : Bool)
  | close (bank : Fin 4)
  | closeAll
  | refresh
  | sleepEnter
  | sleepExit
  | modeLoad (codes : ModeCodes)
  | burstStop
  | none
deriving DecidableEq, Repr

/-- What the part last drove on its two bus sides. -/
structure BusOut where
  /-- The command last re-driven toward the store. -/
  command : BusCommand
  /-- The word and mask lines last re-driven toward the store for a write beat. -/
  toStore : Option (Word × Mask)
  /-- The word last driven toward the memory controller for a read. -/
  toController : Option Word
deriving DecidableEq, Repr

/-- The Kwelmar 2240. -/
structure State where
  /-- The part is in reset: power-on reset, or the reset line held low. -/
  inReset : Bool
  /-- The strap image; none from power-on until the first sample (R23). -/
  straps : Option Straps
  tracker : Tracker
  /-- The region table. -/
  regions : Vector Region 8
  policy : Policy
  time : TimeBase
  light : Light
  faces : Vector FaceState 8
  tiles : TileLink
  /-- What has been handed to the Constraint Block and not yet taken, oldest first (the model's own: R147). -/
  inbox : List Notice
  report : Report
  bus : BusOut
  /-- How many free choices of order have been made (the model's own). -/
  choices : Nat
  /-- The commands that are waiting, first in, first out (the model's own). -/
  pending : List Instr
deriving DecidableEq, Repr

/-! ### The reset values -/

/-- The tracker at reset (R22). -/
def Tracker.reset : Tracker :=
  { banks := tabulate fun _ => .unknown
    mode := { length := .one, order := .sequential, latency := 2, writeSingle := false, source := .unknown }
    queue := [], due := [], write := none, store := .awake, position := 0, beatDone := true
    resumed := false, arrived := false }

/-- A face of the region table at reset: not configured (R27). -/
def Region.reset : Region :=
  { configured := false, baseA := 0, baseB := none, width := 0, height := 0, stride := 0 }

/-- The Policy Block at reset (R62, R63). -/
def Policy.reset : Policy :=
  { staging := defaultTables, active := defaultTables
    commitWord := { mask := 0#6, seq := 0#8 }
    status := { seq := 0#8, state := .idle, failure := none, lost := 0 }
    refused := 0 }

/-- The Time Base at reset (R74). -/
def TimeBase.reset : TimeBase :=
  { prescaler := 0, stamp := 0#32, tod := { set := false, minute := 0, ms := 0 }, phase := 0, tickRaised := false }

/-- A light channel at reset (R85). -/
def Channel.reset : Channel :=
  { state := .stale, heard := false, window := [], timer := .stopped, lastGood := none, consecBad := 0
    badActive := false, satRun := false, samples := 0, bad := 0 }

/-- The Light Channels at reset (R85). -/
def Light.reset : Light := { channels := tabulate fun _ => Channel.reset, shortFrames := 0 }

/-- The level state of a face at reset (R106). -/
def LevelState.reset : LevelState :=
  { held := 0, catchUp := false, light := none, curve := 0, cap := 0, target := 0 }

/-- The Pixel Scaler's state of a face at reset (R123). -/
def PixelState.reset : PixelState :=
  { factor := 0, aplFactor := 4096, frameOpen := false, count := 0, sumIn := 0, sumOut := 0, aplIn := 0
    aplOut := 0, frames := 0#32 }

/-- The scan monitor of a face at reset (R136). -/
def ScanState.reset : ScanState :=
  { state := .noSignal, displayed := .A, lastLine := 0, linesSeen := 0, lastFlip := 0#32, timer := .stopped
    liveWrites := 0 }

/-- The cause sets of a face at reset (R156). -/
def CauseState.reset : CauseState := { blank := [], derate := [], clean := 0 }

/-- A face at reset; every mode word reads DARK (R47). -/
def FaceState.reset : FaceState :=
  { mode := .dark, level := .reset, pixel := .reset, scan := .reset, causes := .reset }

/-- A cleared tile entry (R139). -/
def TileEntry.reset : TileEntry :=
  { heard := false, status := 0#4, openCount := 0#8, temp := 0#8, silent := false, timer := .stopped }

/-- The Tile Link at reset (R146). -/
def TileLink.reset : TileLink :=
  { entries := tabulate fun _ => tabulate fun _ => TileEntry.reset, errors := 0, discarded := 0 }

/-- A report slot at reset (R168). -/
def Slot.reset : Slot :=
  { code := .empty, former := none, filterKey := 0#16, filterMask := 0#16, record := none, overwrites := 0 }

/-- The Report Block at reset (R168). -/
def Report.reset : Report :=
  { queue := [], drop := 0, writer := none, slots := tabulate fun _ => Slot.reset, lock := none
    restartPending := false }

/-- Every block at its reset values, the part held in reset, with a strap image, what the bus sides last carried,
the free choices already made and the waiting commands as given (R22, R23, R36, R62, R74, R85, R106, R123, R136, R146, R156, R168). -/
def State.held (straps : Option Straps) (bus : BusOut) (choices : Nat) (pending : List Instr) : State :=
  { inReset := true, straps := straps, tracker := .reset, regions := tabulate fun _ => Region.reset
    policy := .reset, time := .reset, light := .reset, faces := tabulate fun _ => FaceState.reset, tiles := .reset
    inbox := [], report := .reset, bus := bus, choices := choices, pending := pending }

/-- Power-on: every block at its reset values, no strap image yet, nothing waiting. The part leaves reset at
RESET_RELEASE, which samples the straps (R23; log 1). -/
def State.reset : State :=
  State.held none { command := .none, toStore := none, toController := none } 0 []

end Sys2Proof.Machine
end

