-- ==== Sys2Proof/Machine/Flags.lean ====
section
/-! DEFINITION. Machine/Flags.lean: the views that follow from State: tracking state, configuration state, output
level, factor, blanking and the FAULT line. -/

namespace Sys2Proof.Machine

/-- The strap image as the blocks read it; before the first sample it has no values, and nothing reads it then but
the fallback scaling of R110. -/
def State.strapImage (s : State) : Straps := s.straps.getD { svc := 0#2, map := false, fb := 0#2, clk := false }

/-- The fallback level of the strap image (R26). -/
def State.fallbackLevel (s : State) : Nat := Config.fallbackLevel s.strapImage

/-- The fallback factor, equal to the fallback level (R26, R102); 0 before the first sample (R110). -/
def State.fallbackFactor (s : State) : Nat :=
  match s.straps with
  | none => 0
  | some p => Config.fallbackLevel p

/-- The tracking state is TRACKING (R10). -/
def ModeImage.tracking (m : ModeImage) : Bool := m.source != .unknown

/-- The tracker is TRACKING; otherwise it is LOST. -/
def State.tracking (s : State) : Bool := s.tracker.mode.tracking

/-- Face f is configured in the region table (2.3). -/
def State.configured (s : State) (f : Fin 8) : Bool := s.regions[f].configured

/-- The eight faces in order. -/
def allFaces : List (Fin 8) := [0, 1, 2, 3, 4, 5, 6, 7]

/-- The configuration state is CONFIGURED (R28). -/
def State.isConfigured (s : State) : Bool := allFaces.any fun f => s.configured f

/-- Some bank of the bank table is OPEN. -/
def Bank.isOpen : Bank → Bool
  | .opened _ => true
  | _ => false

/-- Any bank is OPEN (R2, R6 to R8). -/
def Tracker.anyOpen (t : Tracker) : Bool := t.banks[0].isOpen || t.banks[1].isOpen || t.banks[2].isOpen || t.banks[3].isOpen

/-- The output level Q of a held level P (R96). -/
def outputLevel (p : Nat) : Nat := p / 256

/-- The output level of a face. -/
def LevelState.output (l : LevelState) : Nat := outputLevel l.held

/-- The factor of a level (R102). -/
def factorOf (q : Nat) : Nat := if q < 4095 then q else 4096

/-- A face is blanked: its mode is BLANK or DARK, or its blank-cause set is non-empty (R112). -/
def FaceState.blanked (x : FaceState) : Bool := x.mode == .blank || x.mode == .dark || !x.causes.blank.isEmpty

/-- A slot holds a record that the host has not acknowledged (R155, R158). -/
def SlotCode.holds : SlotCode → Bool
  | .full => true
  | .overrun => true
  | _ => false

/-- A cause set of a face is non-empty. -/
def CauseState.any (c : CauseState) : Bool := !c.blank.isEmpty || !c.derate.isEmpty

/-- The FAULT line (R155): it follows its four terms without delay or latch. -/
def State.faultLine (s : State) : Bool :=
  s.report.slots.toList.any (fun x => x.code.holds)
    || allFaces.any (fun f => s.configured f && s.faces[f].causes.any)
    || !s.tracking || !s.isConfigured

/-- The part takes bus commands and beats: it is out of reset and the store is AWAKE (R1, R2, R22). -/
def State.takesBus (s : State) : Bool := !s.inReset && s.tracker.store == .awake

/-- The minute-of-week that a record carries (R70). -/
def TimeOfDay.recordMinute (d : TimeOfDay) : BitVec 16 := if d.set then BitVec.ofNat 16 d.minute else 0xFFFF#16

/-- A commit is in flight (3.4). -/
def Policy.inFlight (p : Policy) : Bool := p.status.state == .inFlight

/-- A section is locked by the commit in flight (R55). -/
def Policy.locked (p : Policy) (x : Sec) : Bool := p.inFlight && names p.commitWord.mask x

/-- Face f is monitored: configured and not DARK (R125). -/
def State.monitored (s : State) (f : Fin 8) : Bool := s.configured f && s.faces[f].mode != .dark

end Sys2Proof.Machine
end

