-- ==== Sys2Proof/Machine/Operands.lean ====
section
/-! DEFINITION. Machine/Operands.lean: the word address of a beat and its class (Chapter 2), and the burst columns
(R11). -/

namespace Sys2Proof.Machine

/-- The word address of bank, row and column under the MAP code (R20, R25). -/
def wordAddress (map : Bool) (bank : Fin 4) (row : Row) (column : Nat) : Nat :=
  if map then (bank.val * 8192 + row.toNat) * 512 + column else (row.toNat * 4 + bank.val) * 512 + column

/-- The beats of a burst length; none for a full-row burst, which runs until it is ended (R11). -/
def BurstLength.beats : BurstLength → Option Nat
  | .one => some 1
  | .two => some 2
  | .four => some 4
  | .eight => some 8
  | .fullRow => none

/-- The column of beat k of a burst (R11). -/
def burstColumn (len : BurstLength) (order : BurstOrder) (start : Column) (k : Nat) : Nat :=
  match len.beats with
  | none => (start.toNat + k) % 512
  | some bl =>
    let offset := start.toNat % bl
    let block := start.toNat - offset
    match order with
    | .sequential => block + (offset + k) % bl
    | .interleaved => block + (offset ^^^ k)

/-- The column of the next beat of a write burst (1.7). -/
def WriteBurst.nextColumn (w : WriteBurst) : Nat := burstColumn w.length w.order w.start w.issued

/-- The beats remaining of a write burst; none where unbounded (1.7). -/
def WriteBurst.remaining (w : WriteBurst) : Option Nat := w.length.beats.map fun n => n - w.issued

/-! ### The region table and the classes -/

/-- The class of a beat and what it carries (R29). -/
inductive BeatClass where
  | unattributed
  /-- Service area, policy page. -/
  | policy (offset : Nat)
  /-- Service area, report page. -/
  | report (offset : Nat)
  | pixel (face : Fin 8) (buffer : Buffer) (x line : Nat) (zone : Fin 16)
  | padding (face : Fin 8) (buffer : Buffer)
  /-- Other, with the configuration state in force. -/
  | other (configured : Bool)
deriving DecidableEq, Repr

/-- The zone of a pixel (R32). -/
def zoneOf (r : Region) (x line : Nat) : Fin 16 := Fin.ofNat 16 ((line * 4 / r.height) * 4 + x * 4 / r.width)

/-- The class a beat has in one buffer of a configured face, where it lies in that buffer's extent (R31). -/
def inBuffer (f : Fin 8) (r : Region) (b : Buffer) (base w : Nat) : Option BeatClass :=
  if base ≤ w && w - base < r.height * r.stride then
    let line := (w - base) / r.stride
    let x := (w - base) % r.stride
    some (if x < r.width then .pixel f b x line (zoneOf r x line) else .padding f b)
  else none

/-- The class a beat has in one face (R31). -/
def inFace (f : Fin 8) (r : Region) (w : Nat) : Option BeatClass :=
  if !r.configured then none
  else (inBuffer f r .A r.baseA w).or (r.baseB.bind fun b => inBuffer f r .B b w)

/-- The first face in order that holds the word. -/
def State.inFaces (s : State) (w : Nat) : List (Fin 8) → Option BeatClass
  | [] => none
  | f :: fs =>
    match inFace f s.regions[f] w with
    | some c => some c
    | none => s.inFaces w fs

/-- The class of a beat with word address w, or of one without: the checks of R29 in order. -/
def State.classify (s : State) : Option Nat → BeatClass
  | none => .unattributed
  | some w =>
    let base := Config.serviceBase s.strapImage
    if base ≤ w && w ≤ base + 4095 then
      if w - base < 2048 then .policy (w - base) else .report (w - base - 2048)
    else (s.inFaces w allFaces).getD (.other s.isConfigured)

/-! ### Mode codes (1.4, 12.3) -/

/-- The burst length of a code; none for the reserved codes 4, 5, 6. -/
def lengthOfCode (c : Nat) : Option BurstLength :=
  match c with
  | 0 => some .one
  | 1 => some .two
  | 2 => some .four
  | 3 => some .eight
  | 7 => some .fullRow
  | _ => none

/-- The burst-length code of the mode image, as it reads. -/
def BurstLength.code : BurstLength → Nat
  | .one => 0
  | .two => 1
  | .four => 2
  | .eight => 3
  | .fullRow => 7

/-- A set of codes is valid: length not reserved, latency 2 or 3, full row not with INTERLEAVED (1.4). -/
def codesValid (c : ModeCodes) : Bool :=
  (lengthOfCode c.length.toNat).isSome && (c.latency.toNat == 2 || c.latency.toNat == 3)
    && !(c.length == 7#3 && c.interleaved)

/-- The first four fields of the mode image that a valid set of codes gives, with a source. -/
def codesImage (c : ModeCodes) (src : ModeSource) : ModeImage :=
  { length := (lengthOfCode c.length.toNat).getD .one
    order := if c.interleaved then .interleaved else .sequential
    latency := c.latency.toNat, writeSingle := c.writeSingle, source := src }

/-- The codes of a mode declaration word (12.3). -/
def declaredCodes (w : Word) : ModeCodes :=
  { length := BitVec.ofNat 3 (bits w 0 3), interleaved := w.getLsbD 3, latency := BitVec.ofNat 3 (bits w 4 3)
    writeSingle := w.getLsbD 7 }

end Sys2Proof.Machine
end

