-- ==== Sys2Proof/Machine/Ops.lean ====
section
/-! DEFINITION. Machine/Ops.lean: the shared operations: updates of one face, timers, making a record, the record
queue, and what the Constraint Block does with what is handed to it (Chapter 10). -/

namespace Sys2Proof.Machine

/-! ### One face -/

/-- The state with face f changed by g. -/
def State.modFace (s : State) (f : Fin 8) (g : FaceState → FaceState) : State :=
  { s with faces := s.faces.set f (g s.faces[f]) }

/-- The state with every face changed by g, which is told the face's number. -/
def State.mapFaces (s : State) (g : Fin 8 → FaceState → FaceState) : State :=
  { s with faces := tabulate fun f => g f s.faces[f] }

/-! ### Timers (R66) -/

/-- A timer takes one 1 ms event. -/
def Timer.ms : Timer → Timer
  | .running (n + 1) => .running n
  | t => t

/-- A timer's last 1 ms event has been taken: its expiry is due. -/
def Timer.due : Timer → Bool
  | .running 0 => true
  | _ => false

/-! ### Records (R147, 12.5) -/

/-- The source kinds of 10.1. -/
inductive SourceKind where
  | face | channel | tile | bus
deriving DecidableEq, Repr

/-- The code of a source kind: FACE 1, CHANNEL 2, TILE 3, BUS 4. -/
def SourceKind.code : SourceKind → Nat
  | .face => 1
  | .channel => 2
  | .tile => 3
  | .bus => 4

/-- The record key: class code in bits 0..4, source index in 5..12, source kind in 13..15 (12.5). -/
def recordKey (k : SourceKind) (index cls : Nat) : BitVec 16 :=
  BitVec.ofNat 16 (cls % 32 + (index % 256) * 32 + k.code * 8192)

/-- The class code of a record. -/
def Record.cls (r : Record) : Fin 32 := Fin.ofNat 32 r.key.toNat

/-- The source index of a record. -/
def Record.src (r : Record) : Nat := r.key.toNat / 32 % 256

/-- The source kind code of a record. -/
def Record.kind (r : Record) : Nat := r.key.toNat / 8192

/-- A record made now carries the stamp and minute-of-week that the Time Base holds (R70). -/
def State.mkRecord (s : State) (k : SourceKind) (index cls : Nat) (e : EventKind) (value : Nat) : Record :=
  { key := recordKey k index cls, event := e, value := BitVec.ofNat 16 value, stamp := s.time.stamp
    minute := s.time.tod.recordMinute }

/-- A record joins the record queue, or is dropped and counted when the queue holds 16 (R157). -/
def Report.append (p : Report) (r : Record) : Report :=
  if p.queue.length < 16 then { p with queue := p.queue ++ [r] } else { p with drop := satInc max16 p.drop }

/-! ### Cause sets (10.3, 10.4) -/

/-- A cause is of a given class and source. -/
def Cause.is (c : Cause) (cls src : Nat) : Bool := c.cls == cls && c.src == src

/-- The set holds a cause of this class and source. -/
def hasCause (cs : List Cause) (cls src : Nat) : Bool := cs.any fun c => c.is cls src

/-- The condition of every cause of this class and source in a set. -/
def setCond (cs : List Cause) (cls src : Nat) (v : Bool) : List Cause :=
  cs.map fun c => if c.is cls src then { c with cond := v } else c

/-- A strike of R150 on the named set: an absent cause is added, with a true condition at an ONSET and a false one
at an OCCURRENCE; a present one takes a true condition at an ONSET; the latch takes the action word's. -/
def strike (cs : List Cause) (cls src : Nat) (onset latch : Bool) : List Cause :=
  if hasCause cs cls src then
    cs.map fun c => if c.is cls src then { c with cond := onset || c.cond, latch := latch } else c
  else cs ++ [{ cls := cls, src := src, cond := onset, latch := latch }]

/-- An ONSET of any action makes true the causes already present, and sets the clean count to 0 where it finds one
(R150). -/
def CauseState.onset (c : CauseState) (cls src : Nat) : CauseState :=
  { blank := setCond c.blank cls src true
    derate := setCond c.derate cls src true
    clean := if hasCause c.blank cls src || hasCause c.derate cls src then 0 else c.clean }

/-- The strike that the action gives (R150). -/
def CauseState.struck (c : CauseState) (cls src : Nat) (act : Action) (onset latch : Bool) : CauseState :=
  match act with
  | .blank => { c with blank := strike c.blank cls src onset latch, clean := 0 }
  | .derate => { c with derate := strike c.derate cls src onset latch, clean := 0 }
  | _ => c

/-- A condition ends: every cause of the class and source becomes false in both sets (R151). -/
def CauseState.ended (c : CauseState) (cls src : Nat) : CauseState :=
  { c with blank := setCond c.blank cls src false, derate := setCond c.derate cls src false }

/-- What a record does to the sets of one affected face (R148, R150, R151). -/
def CauseState.take (c : CauseState) (cls src : Nat) (e : EventKind) (act : Action) (latch : Bool) : CauseState :=
  match e with
  | .onset => (c.onset cls src).struck cls src act true latch
  | .occurrence => c.struck cls src act false latch
  | .clear => c.ended cls src

/-- Some cause of the face has a true condition. -/
def CauseState.anyTrue (c : CauseState) : Bool := c.blank.any (·.cond) || c.derate.any (·.cond)

/-- The automatic release: every unlatched cause whose condition is false leaves (R152). -/
def CauseState.autoRelease (c : CauseState) : CauseState :=
  { blank := c.blank.filter fun x => x.latch || x.cond
    derate := c.derate.filter fun x => x.latch || x.cond
    clean := 0 }

/-- The host's RELEASE: every cause whose condition is false leaves, latched or not (R153). -/
def CauseState.released (c : CauseState) : CauseState :=
  { blank := c.blank.filter (·.cond), derate := c.derate.filter (·.cond), clean := 0 }

/-- A frame completion of the face (R152). -/
def CauseState.completed (c : CauseState) (cleanFrames : Nat) : CauseState :=
  if !c.any then { c with clean := 0 }
  else if c.anyTrue then c
  else if cleanFrames ≤ satInc 255 c.clean then c.autoRelease
  else { c with clean := satInc 255 c.clean }

/-- The faces a record reaches, worked out when it is taken (R149). -/
def State.affected (s : State) (r : Record) (f : Fin 8) : Bool :=
  s.configured f &&
    (if r.kind = SourceKind.face.code then r.src == f.val
    else if r.kind = SourceKind.tile.code then r.src / 32 == f.val
    else if r.kind = SourceKind.channel.code then (s.policy.active.face f).sensorMask.getLsbD r.src
    else false)

/-- The Constraint Block takes a record (R148): the action of its class decides whether it joins the record queue,
and what it does to the sets of the affected faces. -/
def State.takeRecord (s : State) (r : Record) : State :=
  let act := s.policy.active.action r.cls
  let latch := s.policy.active.latch r.cls
  let s := s.mapFaces fun f x =>
    if s.affected r f then { x with causes := x.causes.take r.cls.val r.src r.event act latch } else x
  if act = .none then s else { s with report := s.report.append r }

/-- The Constraint Block takes a frame completion of a configured face (R152). -/
def State.takeCompletion (s : State) (f : Fin 8) : State :=
  if s.configured f then
    s.modFace f fun x => { x with causes := x.causes.completed s.policy.active.cleanFrames }
  else s

/-- The class code of SCAN STALL. -/
def clsScanStall : Nat := 1

/-- The Constraint Block makes false the condition of a face's SCAN STALL cause in either set (R151). -/
def State.takeStallEnded (s : State) (f : Fin 8) : State :=
  s.modFace f fun x => { x with causes := x.causes.ended clsScanStall f.val }

/-- A notice that is the SCAN STALL onset of face f. -/
def Notice.isStallOnset (f : Fin 8) : Notice → Bool
  | .record r => r.key == recordKey .face f.val clsScanStall && r.event == .onset
  | _ => false

/-- A list with x put right behind the last element that p picks; as it was where p picks none. -/
def putBehindLast {α : Type} (p : α → Bool) (x : α) : List α → List α
  | [] => []
  | y :: ys => if ys.any p then y :: putBehindLast p x ys else if p y then y :: x :: ys else y :: ys

/-- The Scan Supervisor tells the Constraint Block that a face's SCAN STALL condition has ended (R133, R134): the
condition of its cause is false at the event (R151), and an onset of that condition that still waits to be taken is
followed by its end (log 7). -/
def State.endStall (s : State) (f : Fin 8) : State :=
  { s.takeStallEnded f with inbox := putBehindLast (Notice.isStallOnset f) (.stallEnded f) s.inbox }

/-- What stands at the front of the inbox and is no record is taken at once; a record waits for its RECORD step. -/
def State.drain (s : State) : List Notice → State
  | .completion f :: rest => (s.takeCompletion f).drain rest
  | .stallEnded f :: rest => (s.takeStallEnded f).drain rest
  | rest => { s with inbox := rest }

/-- A monitor hands over what its event made, in the order its chapter gives (R147). -/
def State.hand (s : State) (ns : List Notice) : State := s.drain (s.inbox ++ ns)

/-- One record is handed over. -/
def State.handRecord (s : State) (r : Record) : State := s.hand [.record r]

end Sys2Proof.Machine
end

