-- ==== Sys2Proof/Machine/TimeBase.lean ====
section
/-! DEFINITION. Machine/TimeBase.lean: the Time Base's own part of the 1 ms event, time-of-day and the
curfew cap (Chapter 4). -/

namespace Sys2Proof.Machine

/-- Time-of-day at a 1 ms event (R67). -/
def TimeOfDay.ms1 (d : TimeOfDay) : TimeOfDay :=
  if !d.set then d
  else if d.ms + 1 < 60000 then { d with ms := d.ms + 1 }
  else { d with ms := 0, minute := if d.minute + 1 < 10080 then d.minute + 1 else 0 }

/-- The Time Base takes a 1 ms event: stamp, time-of-day, tick phase, in that order (R64, R65, R67, R69). -/
def TimeBase.ms1 (t : TimeBase) : TimeBase :=
  { prescaler := 0
    stamp := t.stamp + 1
    tod := t.tod.ms1
    phase := if t.phase + 1 < 100 then t.phase + 1 else 0
    tickRaised := t.tickRaised || !(t.phase + 1 < 100) }

/-- Every timer of the part counts the 1 ms event (R66). -/
def State.timersMs (s : State) : State :=
  { s with
    light := { s.light with channels := tabulate fun c => { s.light.channels[c] with timer := s.light.channels[c].timer.ms } }
    faces := tabulate fun f =>
      { s.faces[f] with scan := { s.faces[f].scan with timer := s.faces[f].scan.timer.ms } }
    tiles := { s.tiles with entries := tabulate fun f => tabulate fun i =>
      { s.tiles.entries[f][i] with timer := s.tiles.entries[f][i].timer.ms } } }

/-- The 1 ms event (R64, R66). -/
def State.ms1 (s : State) : State := { s.timersMs with time := s.time.ms1 }

/-- A setting of time-of-day (R68). -/
def State.setTime (s : State) (minute ms : Nat) : State :=
  { s with time := { s.time with tod := { set := true, minute := minute, ms := ms } } }

/-- The entry with the greatest start of a list, the first of equals. -/
def greatestStart : List SchedEntry → Option SchedEntry
  | [] => none
  | e :: es =>
    match greatestStart es with
    | none => some e
    | some g => if g.start ≤ e.start then some e else some g

/-- The used entries whose face mask includes f (R72). -/
def Tables.entriesOf (t : Tables) (f : Fin 8) : List SchedEntry :=
  t.entries.filter fun e => e.used && e.faces.getLsbD f.val

/-- The cap that a face's entries give at minute m: the greatest start at or before m, else the greatest start of
all, and 4,095 where there is no entry (R72). -/
def capAt (es : List SchedEntry) (m : Nat) : Nat :=
  match greatestStart (es.filter fun e => e.start ≤ m) with
  | some e => e.cap
  | none =>
    match greatestStart es with
    | some e => e.cap
    | none => 4095

/-- The curfew cap K of face f (R71, R72, R73). -/
def State.curfewCap (s : State) (f : Fin 8) : Nat :=
  if s.time.tod.set then capAt (s.policy.active.entriesOf f) s.time.tod.minute else s.policy.active.unsetCap

end Sys2Proof.Machine
end

