-- ==== Sys2Proof/Machine/Light.lean ====
section
/-! DEFINITION. Machine/Light.lean: the ambient light channels (Chapter 5). -/

namespace Sys2Proof.Machine

/-! ### The filtered value -/

/-- A code placed into an ascending list. -/
def insertCode (x : Nat) : List Nat → List Nat
  | [] => [x]
  | y :: ys => if x ≤ y then x :: y :: ys else y :: insertCode x ys

/-- The codes sorted ascending. -/
def sortCodes : List Nat → List Nat
  | [] => []
  | x :: xs => insertCode x (sortCodes xs)

/-- The lower median: of k codes sorted ascending, the one at position floor((k-1)/2); none of no code (R77). -/
def lowerMedian (w : List Nat) : Option Nat := (sortCodes w)[(w.length - 1) / 2]?

/-- The filtered value of a channel (5.2, R77). -/
def Channel.filtered (c : Channel) : Option Nat := lowerMedian c.window

/-- The window with a code added at its end, the oldest removed where it would hold ten (R77). -/
def windowAdd (w : List Nat) (code : Nat) : List Nat := if w.length < 9 then w ++ [code] else w.drop 1 ++ [code]

/-! ### Sample frames (12.7) -/

/-- The six nibbles sum to 15 modulo 16 (R76). -/
def sampleGood (n0 n1 n2 n3 n4 n5 : Nibble) : Bool :=
  (n0.toNat + n1.toNat + n2.toNat + n3.toNat + n4.toNat + n5.toNat) % 16 = 15

/-- The channel number: value 8 of nibble 0 is its high bit, value 4 its low bit. -/
def sampleChannel (n0 : Nibble) : Fin 4 := Fin.ofNat 4 (n0.toNat / 4)

/-- The saturated flag: value 2 of nibble 0. -/
def sampleFlag (n0 : Nibble) : Bool := n0.getLsbD 1

/-- The light code, most significant nibble first. -/
def sampleCode (n1 n2 n3 n4 : Nibble) : Nat := n1.toNat * 4096 + n2.toNat * 256 + n3.toNat * 16 + n4.toNat

/-! ### Good and bad frames -/

/-- The class codes of the channel records (R83). -/
def clsSensorStale : Nat := 8
def clsSensorBad : Nat := 9
def clsSensorSaturated : Nat := 10

/-- A good sample is saturated when its flag is set or its code is 65,535 (R80). -/
def saturatedSample (flag : Bool) (code : Nat) : Bool := flag || code == 65535

/-- A channel after a good frame (R77 to R80); `timeout` is the stale timeout at this start. -/
def Channel.good (c : Channel) (code : Nat) (flag : Bool) (now : Stamp) (timeout : Nat) : Channel :=
  { state := .fresh, heard := true, window := windowAdd c.window code, timer := .running timeout
    lastGood := some now, consecBad := 0, badActive := false, satRun := saturatedSample flag code
    samples := satInc max16 c.samples, bad := c.bad }

/-- The channel has gone stale: STALE with its heard flag set (5.2). -/
def Channel.goneStale (c : Channel) : Bool := c.state == .stale && c.heard

/-- The records of a good frame, in the order of R83. -/
def State.goodRecords (s : State) (ch : Fin 4) (code : Nat) (flag : Bool) : List Notice :=
  let c := s.light.channels[ch]
  (if c.goneStale then [.record (s.mkRecord .channel ch.val clsSensorStale .clear 0)] else [])
    ++ (if c.badActive then [.record (s.mkRecord .channel ch.val clsSensorBad .clear c.bad)] else [])
    ++ (if saturatedSample flag code && !c.satRun then
        [.record (s.mkRecord .channel ch.val clsSensorSaturated .occurrence code)] else [])

/-- The state with another channel ch. -/
def State.setChannel (s : State) (ch : Fin 4) (c : Channel) : State :=
  { s with light := { s.light with channels := s.light.channels.set ch c } }

/-- A good frame is taken by its channel (R77 to R80, R83). -/
def State.goodFrame (s : State) (ch : Fin 4) (code : Nat) (flag : Bool) : State :=
  (s.setChannel ch (s.light.channels[ch].good code flag s.time.stamp s.policy.active.staleTimeout)).hand
    (s.goodRecords ch code flag)

/-- A channel after a bad frame is charged to it (R81). -/
def Channel.badFrame (c : Channel) : Channel :=
  { c with
    bad := satInc max16 c.bad
    consecBad := satInc max16 c.consecBad
    badActive := c.badActive || 3 ≤ satInc max16 c.consecBad }

/-- A bad frame: at the third in a row the condition becomes active, with an onset carrying the bad count (R81). -/
def State.badSample (s : State) (ch : Fin 4) : State :=
  let c := s.light.channels[ch]
  let c' := c.badFrame
  (s.setChannel ch c').hand
    (if c'.badActive && !c.badActive then [.record (s.mkRecord .channel ch.val clsSensorBad .onset c'.bad)] else [])

/-- A channel at its stale timer's expiry (R82). -/
def Channel.stale (c : Channel) : Channel :=
  { c with state := .stale, window := [], timer := .stopped, satRun := false }

/-- SENSOR_FRAME_ARRIVAL (R76). -/
def execSensorFrameArrival (n0 n1 n2 n3 n4 n5 : Nibble) (s : State) : Host.Outcome State Fault Refusal :=
  .next (
    if s.inReset then s
    else if sampleGood n0 n1 n2 n3 n4 n5 then
      s.goodFrame (sampleChannel n0) (sampleCode n1 n2 n3 n4) (sampleFlag n0)
    else s.badSample (sampleChannel n0))

/-- SENSOR_INCOMPLETE_FRAME (R75). -/
def execSensorIncompleteFrame (s : State) : Host.Outcome State Fault Refusal :=
  .next (if s.inReset then s else { s with light := { s.light with shortFrames := satInc max16 s.light.shortFrames } })

/-- The expiry of a channel's stale timer, where it is due (R82). -/
def State.staleExpiry (s : State) (ch : Fin 4) : State :=
  if s.light.channels[ch].timer.due then
    (s.setChannel ch s.light.channels[ch].stale).handRecord (s.mkRecord .channel ch.val clsSensorStale .onset 0)
  else s

/-- STALE_TIMER_EXPIRY (R82): happens only where the channel's timer is due. -/
def execStaleTimerExpiry (ch : Fin 4) (s : State) : Host.Outcome State Fault Refusal :=
  .next (if s.inReset then s else s.staleExpiry ch)

/-! ### The light of a face -/

/-- The filtered values of the FRESH channels of a sensor mask (R84). -/
def State.lightValues (s : State) (mask : BitVec 4) : List Nat :=
  [(0 : Fin 4), 1, 2, 3].filterMap fun c =>
    if mask.getLsbD c.val && s.light.channels[c].state == .fresh then s.light.channels[c].filtered else none

/-- The light a combine rule makes of the values; none is no light (R84). -/
def combineLight (useMin : Bool) : List Nat → Option Nat
  | [] => none
  | v :: vs => some (vs.foldl (fun a b => if useMin then min a b else max a b) v)

/-- The light of face f (R84). -/
def State.faceLight (s : State) (f : Fin 8) : Option Nat :=
  combineLight (s.policy.active.face f).combineMin (s.lightValues (s.policy.active.face f).sensorMask)

/-- The Light Channels' share of a monitor restart (R86). -/
def Light.restart (_ : Light) : Light := Light.reset

end Sys2Proof.Machine
end

