-- ==== Sys2Proof/Machine/Level.lean ====
section
/-! DEFINITION. Machine/Level.lean: the Level Engine (Chapter 6). -/

namespace Sys2Proof.Machine

/-- The curve level at light L, interpolated between neighbouring points and held beyond the end points (R89). -/
def curveLevel : List (Nat × Nat) → Nat → Nat
  | [], _ => 0
  | [(_, v)], _ => v
  | (l0, v0) :: (l1, v1) :: rest, L =>
    if L ≤ l0 then v0
    else if L < l1 then v0 + (L - l0) * (v1 - v0) / (l1 - l0)
    else curveLevel ((l1, v1) :: rest) L

/-- The curve level C of face f: from its curve with a light, its loss level with none (R88, R90). -/
def State.curveOf (s : State) (f : Fin 8) : Nat :=
  match s.faceLight f with
  | some l => curveLevel (s.policy.active.curvePoints (s.policy.active.face f).curve) l
  | none => (s.policy.active.face f).loss

/-- The derate cap D of face f (R91). -/
def State.derateCap (s : State) (f : Fin 8) : Nat :=
  if s.faces[f].causes.derate.isEmpty then 4095 else (s.policy.active.face f).derate

/-- The target T of face f: the least of C, K and D (R92). -/
def State.targetOf (s : State) (f : Fin 8) : Nat := min (s.curveOf f) (min (s.curfewCap f) (s.derateCap f))

/-- P moved toward a goal by at most a rate, never past it (R94). -/
def slewToward (goal rate p : Nat) : Nat :=
  if p < goal then p + min rate (goal - p) else p - min rate (p - goal)

/-- The rate chosen for P against the goal T × 256 (R93). -/
def FaceRecord.rate (r : FaceRecord) (catchUp : Bool) (goal p : Nat) : Nat :=
  if catchUp then r.fast else if p < goal then r.rise else r.fall

/-- The level state of a computed face after a tick (R88 to R100): HOLD keeps P, and only RUN clears the catch-up
flag, where P stands on the goal. -/
def LevelState.tick (l : LevelState) (mode : Mode) (r : FaceRecord) (light : Option Nat) (c k t : Nat) : LevelState :=
  let p := if mode = .hold then l.held else slewToward (t * 256) (r.rate l.catchUp (t * 256) l.held) l.held
  { held := p
    catchUp := if mode = .run && p = t * 256 then false else l.catchUp
    light := light, curve := c, cap := k, target := t }

/-- The Level Engine takes a dimming tick: every configured face that is not DARK is computed (R87). -/
def State.levelTick (s : State) : State :=
  s.mapFaces fun f x =>
    if s.configured f && x.mode != .dark then
      { x with
        level := x.level.tick x.mode (s.policy.active.face f) (s.faceLight f) (s.curveOf f) (s.curfewCap f) (s.targetOf f) }
    else x

/-- The Level Engine takes the tick that the Time Base has raised (R69, R87). -/
def State.takeTick (s : State) : State :=
  if s.time.tickRaised then { s.levelTick with time := { s.time with tickRaised := false } } else s

/-- DIMMING_TICK (R69, R87): happens only where the Time Base has raised the tick. -/
def execDimmingTick (s : State) : Host.Outcome State Fault Refusal :=
  .next (if s.inReset then s else s.takeTick)

/-- Entry to DARK: P and the published values become 0, with no light (R98). -/
def LevelState.enterDark (l : LevelState) : LevelState :=
  { l with held := 0, light := none, curve := 0, cap := 0, target := 0 }

/-- A face becomes configured: P is the fallback level × 256 (R101, R103). -/
def LevelState.configure (fallback : Nat) : LevelState :=
  { held := fallback * 256, catchUp := false, light := none, curve := 0, cap := 0, target := 0 }

end Sys2Proof.Machine
end

