-- ==== Sys2Proof/Machine/Scaler.lean ====
section
/-! DEFINITION. Machine/Scaler.lean: the Pixel Scaler (Chapter 7). -/

namespace Sys2Proof.Machine

/-- A component scaled by a factor, rounded to the nearer whole value (R108). -/
def scaleComponent (x f : Nat) : Nat := (x * f + 2048) / 4096

/-- The B, G and R components of a pixel word (12.2). -/
def pixelB (w : Word) : Nat := bits w 0 10
def pixelG (w : Word) : Nat := bits w 10 10
def pixelR (w : Word) : Nat := bits w 20 10

/-- The sum of a pixel word's three components. -/
def pixelSum (w : Word) : Nat := pixelB w + pixelG w + pixelR w

/-- A word scaled by a factor 0..4,096, its flag field as it arrived (R108). -/
def scaleWord (f : Nat) (w : Word) : Word :=
  put 0 10 (scaleComponent (pixelB w) f) ||| put 10 10 (scaleComponent (pixelG w) f)
    ||| put 20 10 (scaleComponent (pixelR w) f) ||| (w &&& 0xC0000000#32)

/-- A word with its three components 0 and its flag field as it arrived (R111, R112). -/
def blackWord (w : Word) : Word := w &&& 0xC0000000#32

/-- The zone factor: frame factor × trim / 256 (R111). -/
def zoneFactor (factor trim : Nat) : Nat := factor * trim / 256

/-- The greatest pixel count of a frame (7.1). -/
def maxPixels : Nat := 16777215

/-- A pixel beat is counted into an OPEN frame whose count has not reached its limit (R113). -/
def PixelState.countBeat (p : PixelState) (before after : Word) : PixelState :=
  if p.frameOpen && p.count < maxPixels then
    { p with count := p.count + 1, sumIn := p.sumIn + pixelSum before, sumOut := p.sumOut + pixelSum after }
  else p

/-- An abandoned frame: NONE with its count and sums 0 (R117). -/
def PixelState.abandon (p : PixelState) : PixelState := { p with frameOpen := false, count := 0, sumIn := 0, sumOut := 0 }

/-- The APL factor that an input APL gives under a limit M (R114). -/
def aplFactorOf (m aIn : Nat) : Nat := if m = 0 || aIn ≤ m then 4096 else m * 4096 / aIn

/-- The frame in progress is completed: APLs, APL factor, frame count (R114, items 1, 2 and 4). -/
def PixelState.complete (p : PixelState) (m : Nat) : PixelState :=
  let aIn := p.sumIn / (3 * p.count)
  { p with aplIn := aIn, aplOut := p.sumOut / (3 * p.count), aplFactor := aplFactorOf m aIn, frames := p.frames + 1 }

/-- The next frame is opened: the lesser of the level's factor and the APL factor is latched (R115). -/
def PixelState.openFrame (p : PixelState) (levelFactor : Nat) : PixelState :=
  { p with factor := min levelFactor p.aplFactor, frameOpen := true, count := 0, sumIn := 0, sumOut := 0 }

/-- The scaler's state of a face at a frame start (R114, R115). -/
def PixelState.frameStart (p : PixelState) (m levelFactor : Nat) : PixelState :=
  if p.frameOpen then (p.complete m).openFrame levelFactor else p.openFrame levelFactor

/-- The class code of APL EXCURSION (R118). -/
def clsAplExcursion : Nat := 3

/-- What a frame start of face f hands over after the supervisor's records: the excursion of the completed frame,
then its completion (R114, R118). -/
def State.scalerNotices (s : State) (f : Fin 8) : List Notice :=
  let p := s.faces[f].pixel
  let m := (s.policy.active.face f).aplLimit
  let aOut := (p.complete m).aplOut
  if !p.frameOpen then []
  else (if m != 0 && m + s.policy.active.aplTolerance < aOut then
      [.record (s.mkRecord .face f.val clsAplExcursion .occurrence aOut)] else [])
    ++ [.completion f]

/-- The word delivered for a pixel of face f in zone z (R111, R112). -/
def State.pixelOut (s : State) (f : Fin 8) (z : Fin 16) (w : Word) : Word :=
  if s.faces[f].blanked then blackWord w
  else scaleWord (zoneFactor s.faces[f].pixel.factor (s.policy.active.trim f z)) w

/-- The part drives a word toward the memory controller. -/
def State.deliver (s : State) (w : Word) : State := { s with bus := { s.bus with toController := some w } }

/-- A pixel beat of face f is scaled or blanked, delivered and counted (R111, items 2 to 4). -/
def State.scalePixel (s : State) (f : Fin 8) (z : Fin 16) (w : Word) : State :=
  (s.modFace f fun x => { x with pixel := x.pixel.countBeat w (s.pixelOut f z w) }).deliver (s.pixelOut f z w)

/-- A face becomes configured (R119). -/
def PixelState.configure (fallback : Nat) : PixelState :=
  { factor := fallback, aplFactor := 4096, frameOpen := false, count := 0, sumIn := 0, sumOut := 0, aplIn := 0
    aplOut := 0, frames := 0#32 }

/-- The scaler's share of a monitor restart for a configured face (R124). -/
def PixelState.restart (p : PixelState) : PixelState := { p.abandon with aplFactor := 4096 }

end Sys2Proof.Machine
end

