-- ==== Sys2Proof/Machine/Scan.lean ====
section
/-! DEFINITION. Machine/Scan.lean: the Scan Supervisor (Chapter 8). -/

namespace Sys2Proof.Machine

/-- The class codes of the supervisor's records (R135); SCAN STALL is `clsScanStall`. -/
def clsDwellShort : Nat := 2
def clsPartialFrame : Nat := 4

/-- A pixel read in buffer b at line l is a frame start (R126). -/
def ScanState.isStart (x : ScanState) (b : Buffer) (l : Nat) : Bool :=
  x.state != .scanning || b != x.displayed || l < x.lastLine

/-- A frame start in buffer b is a flip (R128). -/
def ScanState.isFlip (x : ScanState) (b : Buffer) : Bool := b != x.displayed && x.state != .noSignal

/-- The monitor after a frame start (R126 to R129); the stall timer is started apart. -/
def ScanState.started (x : ScanState) (b : Buffer) (l : Nat) (now : Stamp) : ScanState :=
  { x with
    state := .scanning, displayed := b, lastLine := l, linesSeen := 1
    lastFlip := if x.isFlip b || x.state == .noSignal then now else x.lastFlip }

/-- The monitor after a beat that continues the frame in progress (R126). -/
def ScanState.continued (x : ScanState) (l : Nat) : ScanState :=
  if x.lastLine < l then { x with lastLine := l, linesSeen := x.linesSeen + 1 } else x

/-- The dwell that ends now: elapsed stamp milliseconds, modulo 4,294,967,296 (R66, R128). -/
def ScanState.dwell (x : ScanState) (now : Stamp) : Nat := (now - x.lastFlip).toNat

/-- The supervisor's records of a frame start of face f, in the order of R129. -/
def State.startRecords (s : State) (f : Fin 8) (b : Buffer) : List Notice :=
  let x := s.faces[f].scan
  (match x.state with
    | .scanning =>
      if x.linesSeen < s.regions[f].height then
        [.record (s.mkRecord .face f.val clsPartialFrame .occurrence x.linesSeen)] else []
    | .stalled => [.record (s.mkRecord .face f.val clsScanStall .clear 0)]
    | .noSignal => [])
    ++ (if x.isFlip b && x.dwell s.time.stamp < s.policy.active.minDwell then
        [.record (s.mkRecord .face f.val clsDwellShort .occurrence (min (x.dwell s.time.stamp / 10) max16))] else [])

/-- Face f's stall timer starts anew with the stall window in force (R130). -/
def State.startStallTimer (s : State) (f : Fin 8) : State :=
  s.modFace f fun x => { x with scan := { x.scan with timer := .running s.policy.active.stallWindow } }

/-- The blocks' own changes at a frame start of face f, before what is handed over is taken (R126 to R129, R114,
R115). -/
def State.frameStarted (s : State) (f : Fin 8) (b : Buffer) (l : Nat) : State :=
  s.modFace f fun x =>
    { x with
      scan := x.scan.started b l s.time.stamp
      pixel := x.pixel.frameStart (s.policy.active.face f).aplLimit (factorOf x.level.output) }

/-- A frame start of face f with its starting beat. Where what is handed over changes whether the face is blanked
(an automatic release), the beat may be taken on either side of it: a free choice (log 9). What waits for a RECORD step
comes after the beat: a blank cause that a record of this frame start will strike, and, where a record waits before the
completion, the automatic release that the completion gives. DESIGN CHOICE of one of the two orders of R112, log 24. -/
def State.startBeat (s : State) (f : Fin 8) (b : Buffer) (l : Nat) (z : Fin 16) (w : Word) : State :=
  let ns := s.startRecords f b ++ s.scalerNotices f
  let s1 := s.frameStarted f b l
  let s2 := s1.hand ns
  if s1.faces[f].blanked == s2.faces[f].blanked then s2.scalePixel f z w
  else
    { (if Config.releaseBeforeBeat s.choices then s2.scalePixel f z w else (s1.scalePixel f z w).hand ns) with
      choices := s.choices + 1 }

/-- A face pixel read (R111, R125, R126): a monitored face's supervisor takes it first. The supervisor's signal and the
scaler's frame start are one step, so no entry to DARK comes between them (R102, R115): DESIGN CHOICE, log 25. -/
def State.pixelRead (s : State) (f : Fin 8) (b : Buffer) (l : Nat) (z : Fin 16) (w : Word) : State :=
  if !s.monitored f then s.scalePixel f z w
  else if s.faces[f].scan.isStart b l then (s.startStallTimer f).startBeat f b l z w
  else
    (((s.startStallTimer f).modFace f fun x => { x with scan := x.scan.continued l })).scalePixel f z w

/-- A write beat into a face buffer (R132). -/
def State.liveWrite (s : State) (f : Fin 8) (b : Buffer) : State :=
  if s.monitored f && s.faces[f].scan.state == .scanning && s.faces[f].scan.displayed == b then
    s.modFace f fun x => { x with scan := { x.scan with liveWrites := satInc max16 x.scan.liveWrites } }
  else s

/-- The monitor set to NO SIGNAL with its timer stopped (R133, R134). Last line and lines seen keep their values, which
the spec leaves open: DESIGN CHOICE, log 26. -/
def ScanState.toNoSignal (x : ScanState) : ScanState := { x with state := .noSignal, timer := .stopped }

/-- SLEEP-ENTER: the stall timers of SCANNING faces halt (R131). -/
def State.haltStallTimers (s : State) : State :=
  s.mapFaces fun f x =>
    if s.monitored f && x.scan.state == .scanning then { x with scan := { x.scan with timer := .halted } } else x

/-- SLEEP-EXIT: the stall timers of SCANNING faces start anew at full length (R131). -/
def State.restartStallTimers (s : State) : State :=
  s.mapFaces fun f x =>
    if s.monitored f && x.scan.state == .scanning then
      { x with scan := { x.scan with timer := .running s.policy.active.stallWindow } } else x

/-- The stall of a face: STALLED with its timer stopped, and the scaler's frame abandoned (R117, R130). -/
def FaceState.stall (x : FaceState) : FaceState :=
  { x with scan := { x.scan with state := .stalled, timer := .stopped }, pixel := x.pixel.abandon }

/-- The expiry of a monitored SCANNING face's stall timer, where it is due (R125, R130). -/
def State.stallExpiry (s : State) (f : Fin 8) : State :=
  if s.monitored f && s.faces[f].scan.timer.due && s.faces[f].scan.state == .scanning then
    (s.modFace f FaceState.stall).handRecord (s.mkRecord .face f.val clsScanStall .onset 0)
  else s

/-- STALL_TIMER_EXPIRY (R125, R130): happens only for a monitored SCANNING face whose timer is due. -/
def execStallTimerExpiry (f : Fin 8) (s : State) : Host.Outcome State Fault Refusal :=
  .next (if s.inReset then s else s.stallExpiry f)

/-- A face becomes configured (R134). -/
def ScanState.configure : ScanState := ScanState.reset

/-- The supervisor's share of a monitor restart for one face (R136, R167). -/
def ScanState.restart (x : ScanState) : ScanState := { x with state := .noSignal, timer := .stopped, liveWrites := 0 }

end Sys2Proof.Machine
end

