-- ==== Sys2Proof/Machine/Tile.lean ====
section
/-! DEFINITION. Machine/Tile.lean: the tile status link (Chapter 9). -/

namespace Sys2Proof.Machine

/-- The five bytes sum to 255 modulo 256 (R138). -/
def tileGood (b0 b1 b2 b3 b4 : Byte) : Bool := (b0.toNat + b1.toNat + b2.toNat + b3.toNat + b4.toNat) % 256 = 255

/-- The face of byte 0 (9.1). -/
def tileFace (b0 : Byte) : Fin 8 := Fin.ofNat 8 (b0.toNat / 32)

/-- The tile within the face of byte 0 (9.1). -/
def tileNumber (b0 : Byte) : Fin 32 := Fin.ofNat 32 b0.toNat

/-- The tile index of a tile of a face. -/
def tileIndex (f : Fin 8) (i : Fin 32) : Nat := f.val * 32 + i.val

/-- The status set of byte 1, its spare high bits ignored (R138, 12.7). -/
def tileStatus (b1 : Byte) : BitVec 4 := b1.setWidth 4

/-- The class codes of the tile records (R143); member k of the status set has class 16 + k. -/
def clsTileMember (k : Nat) : Nat := 16 + k
def clsTileSilent : Nat := 20

/-- The value of a member's record: the open count for OPEN, the temperature code for HOT, else 0 (R141). -/
def tileValue (k : Nat) (openCount temp : Byte) : Nat := if k = 0 then openCount.toNat else if k = 2 then temp.toNat else 0

/-- The record of one member whose presence has changed (R141). -/
def State.memberRecord (s : State) (index k : Nat) (old new : BitVec 4) (openCount temp : Byte) : List Notice :=
  if new.getLsbD k && !old.getLsbD k then
    [.record (s.mkRecord .tile index (clsTileMember k) .onset (tileValue k openCount temp))]
  else if old.getLsbD k && !new.getLsbD k then
    [.record (s.mkRecord .tile index (clsTileMember k) .clear (tileValue k openCount temp))]
  else []

/-- The records of a good frame of a configured face, in the order of R141. -/
def State.tileRecords (s : State) (index : Nat) (e : TileEntry) (status : BitVec 4) (openCount temp : Byte) : List Notice :=
  (if e.silent then [.record (s.mkRecord .tile index clsTileSilent .clear 0)] else [])
    ++ s.memberRecord index 0 e.status status openCount temp ++ s.memberRecord index 1 e.status status openCount temp
    ++ s.memberRecord index 2 e.status status openCount temp ++ s.memberRecord index 3 e.status status openCount temp

/-- The state with another entry for a tile. -/
def State.setTile (s : State) (f : Fin 8) (i : Fin 32) (e : TileEntry) : State :=
  { s with tiles := { s.tiles with entries := s.tiles.entries.set f (s.tiles.entries[f].set i e) } }

/-- A good frame of a configured face is taken by its entry (R141). -/
def State.goodTile (s : State) (f : Fin 8) (i : Fin 32) (status : BitVec 4) (openCount temp : Byte) : State :=
  (s.setTile f i
    { heard := true, status := status, openCount := openCount, temp := temp, silent := false
      timer := .running s.policy.active.silentTimeout }).hand
    (s.tileRecords (tileIndex f i) s.tiles.entries[f][i] status openCount temp)

/-- The link error count rises by 1 (R137, R138). -/
def State.linkError (s : State) : State := { s with tiles := { s.tiles with errors := satInc max16 s.tiles.errors } }

/-- The discarded-frame count rises by 1 (R140). -/
def State.discardTile (s : State) : State :=
  { s with tiles := { s.tiles with discarded := satInc max16 s.tiles.discarded } }

/-- TILE_FRAME_ARRIVAL (R138, R140). -/
def execTileFrameArrival (b0 b1 b2 b3 b4 : Byte) (s : State) : Host.Outcome State Fault Refusal :=
  .next (
    if s.inReset then s
    else if !tileGood b0 b1 b2 b3 b4 then s.linkError
    else if !s.configured (tileFace b0) then s.discardTile
    else s.goodTile (tileFace b0) (tileNumber b0) (tileStatus b1) b2 b3)

/-- TILE_INCOMPLETE_FRAME (R137). -/
def execTileIncompleteFrame (s : State) : Host.Outcome State Fault Refusal :=
  .next (if s.inReset then s else s.linkError)

/-- The expiry of a tile's silent timer, where it is due (R142). -/
def State.silentExpiry (s : State) (f : Fin 8) (i : Fin 32) : State :=
  if s.tiles.entries[f][i].timer.due then
    (s.setTile f i { s.tiles.entries[f][i] with silent := true, timer := .stopped }).handRecord
      (s.mkRecord .tile (tileIndex f i) clsTileSilent .onset 0)
  else s

/-- SILENT_TIMER_EXPIRY (R142): happens only where the tile's timer is due. -/
def execSilentTimerExpiry (f : Fin 8) (i : Fin 32) (s : State) : Host.Outcome State Fault Refusal :=
  .next (if s.inReset then s else s.silentExpiry f i)

/-- All 32 entries of a face cleared (R139). -/
def clearedTiles : Vector TileEntry 32 := tabulate fun _ => TileEntry.reset

/-- The Tile Link's share of a monitor restart (R146). -/
def TileLink.restart (_ : TileLink) : TileLink := TileLink.reset

end Sys2Proof.Machine
end

