-- ==== Sys2Proof/Machine/Restart.lean ====
section
/-! DEFINITION. Machine/Restart.lean: the monitor restart, carried out in every block (R167). -/

namespace Sys2Proof.Machine

/-- The Report Block's share: queue emptied, drop count 0, lock ended, nothing pending; slots and writer kept. -/
def Report.restart (p : Report) : Report := { p with queue := [], drop := 0, lock := none, restartPending := false }

/-- The shares of one face: for every face its cause sets emptied and count 0 (R156) and its scan monitor (R167's table);
for a configured one the frame too (R124). -/
def FaceState.restart (configured : Bool) (x : FaceState) : FaceState :=
  { x with causes := .reset, scan := x.scan.restart, pixel := if configured then x.pixel.restart else x.pixel }

/-- A monitor restart takes effect: each block applies its share at once (R167). -/
def State.restart (s : State) : State :=
  { s.mapFaces (fun f x => x.restart (s.configured f)) with
    report := s.report.restart, light := s.light.restart, tiles := s.tiles.restart }

/-- A pending restart takes effect at the event at which the read-return queue becomes empty (R167). -/
def State.settleRestart (s : State) : State :=
  if s.report.restartPending && s.tracker.queue.isEmpty then s.restart else s

/-- The Report Block takes a restart request (R167): it takes effect at once on an empty read-return queue, is set
pending otherwise, and is absorbed where one is pending. Where the WRITE that carries the restart word has itself made a
BUS ANOMALY, that record waits and is taken after the restart, though R156 lets either come first: DESIGN CHOICE, log 28. -/
def State.requestRestart (s : State) : State :=
  if s.report.restartPending then s
  else if s.tracker.queue.isEmpty then s.restart
  else { s with report := { s.report with restartPending := true } }

/-- MONITOR_RESTART (R167): the restart takes effect where the read-return queue is empty. -/
def execMonitorRestart (s : State) : Host.Outcome State Fault Refusal :=
  .next (if s.inReset || !s.tracker.queue.isEmpty then s else s.restart)

end Sys2Proof.Machine
end

