-- ==== Sys2Proof/Machine/Validation.lean ====
section
/-! DEFINITION. Machine/Validation.lean: the checks of a commit on its resulting set, in the order of R57. -/

namespace Sys2Proof.Machine

/-- The first that fails decides (R57). -/
def firstFailure {α : Type} (check : α → Option Reason) : List α → Option Reason
  | [] => none
  | x :: xs =>
    match check x with
    | some r => some r
    | none => firstFailure check xs

/-- A check that gives its reason when it does not hold. -/
def failUnless (ok : Bool) (r : Reason) : Option Reason := if ok then none else some r

/-- The extents of a record's buffers, each a first word and a length (2.3, R56). -/
def FaceRecord.extents (r : FaceRecord) : List (Nat × Nat) :=
  (r.baseA, r.height * r.stride) :: (r.baseB.map fun b => (b, r.height * r.stride)).toList

/-- Two extents have a word in common. -/
def overlap (a b : Nat × Nat) : Bool := a.1 < b.1 + b.2 && b.1 < a.1 + a.2 && 0 < a.2 && 0 < b.2

/-- Width, height, stride exponent and stride are in range (first row of R56). -/
def FaceRecord.geometryOk (r : FaceRecord) : Bool :=
  1 ≤ r.width && r.width ≤ 2048 && 1 ≤ r.height && r.height ≤ 1024 && 6 ≤ r.strideExp && r.strideExp ≤ 11
    && r.width ≤ r.stride

/-- Each extent lies wholly within the store (second row of R56). -/
def FaceRecord.inStore (r : FaceRecord) : Bool := r.extents.all fun e => e.1 + e.2 ≤ Config.storeWords

/-- Buffers A and B of one record do not overlap. -/
def FaceRecord.selfApart (r : FaceRecord) : Bool :=
  match r.baseB with
  | none => true
  | some b => !overlap (b, r.height * r.stride) (r.baseA, r.height * r.stride)

/-- No buffer of a record overlaps a buffer of the other. -/
def FaceRecord.apart (r q : FaceRecord) : Bool := r.extents.all fun a => q.extents.all fun b => !overlap a b

/-- The enabled records numbered below f. -/
def Tables.lowerFaces (t : Tables) (f : Fin 8) : List FaceRecord :=
  ((allFaces.filter fun g => g < f).map t.face).filter (·.enabled)

/-- The checks of section F on one record, in the order of the table of R56; only enabled records are checked. -/
def Tables.checkFace (t : Tables) (base : Nat) (f : Fin 8) : Option Reason :=
  let r := t.face f
  if !r.enabled then none
  else if !(r.geometryOk && r.inStore) then some .faceGeometry
  else if !(r.selfApart && (t.lowerFaces f).all r.apart) then some .faceOverlap
  else if !(r.extents.all fun e => !overlap e (base, 4096)) then some .faceInService
  else if t.curveCount r.curve = 0 then some .faceCurveUnused
  else failUnless (r.rise != 0 && r.fall != 0 && r.fast != 0) .rateZero

/-- Light codes strictly increasing, levels non-decreasing and not above 4,095 (R56). -/
def pointsOk : List (Nat × Nat) → Bool
  | [] => true
  | [p] => p.2 ≤ 4095
  | p :: q :: rest => p.2 ≤ 4095 && p.1 < q.1 && p.2 ≤ q.2 && pointsOk (q :: rest)

/-- The count check, then the order check when the count is 2..16 (R57). -/
def Tables.checkCurve (t : Tables) (k : Fin 4) : Option Reason :=
  let n := t.curveCount k
  if n = 0 then none
  else if n < 2 || 16 < n then some .curveCount
  else failUnless (pointsOk (t.curvePoints k)) .curveOrder

/-- The range check of a used entry, then its duplicate check against the used entries numbered below it (R57). -/
def checkSchedule (below : List SchedEntry) : List SchedEntry → Option Reason
  | [] => none
  | e :: es =>
    if !e.used then checkSchedule below es
    else if !(e.start < 10080 && e.cap ≤ 4095) then some .scheduleRange
    else if below.any fun b => b.start == e.start && b.faces &&& e.faces != 0#8 then some .scheduleDuplicate
    else checkSchedule (e :: below) es

/-- Every trim is at most 256 (R56). -/
def checkTrim (w : Word) : Option Reason := failUnless (bits w 0 9 ≤ 256) .trimRange

/-- Bus classes hold NONE or REPORT, codes without a defined class hold NONE (R56). -/
def Tables.checkAction (t : Tables) (c : Fin 32) : Option Reason :=
  if c.val = 24 || c.val = 25 then failUnless (t.action c == .none || t.action c == .report) .actionCode
  else failUnless (definedClass c.val || t.action c == .none) .actionCode

/-- The range of each general parameter (R53). -/
def paramOk (p : Fin 7) (v : Nat) : Bool :=
  match p.val with
  | 0 => v ≤ 4095
  | 1 => 20 ≤ v && v ≤ 5000
  | 2 => v ≤ 60000
  | 3 => 1 ≤ v && v ≤ 255
  | 4 => 200 ≤ v && v ≤ 30000
  | 5 => 1000 ≤ v && v ≤ 60000
  | _ => v ≤ 255

/-- The range check of one parameter. -/
def Tables.checkParam (t : Tables) (p : Fin 7) : Option Reason := failUnless (paramOk p (t.param p)) .parameterRange

/-- A failed check with the section it is reported against. -/
def inSection (x : Sec) (r : Option Reason) : Option (Reason × Sec) := r.map fun q => (q, x)

/-- The first failure of the checks of R56 in the order of R57, with the service area at `base`; none where the
tables pass commit validation. -/
def Tables.validate (t : Tables) (base : Nat) : Option (Reason × Sec) :=
  (inSection .F (firstFailure (t.checkFace base) allFaces)).or <|
  (inSection .C (firstFailure t.checkCurve [0, 1, 2, 3])).or <|
  (inSection .S (checkSchedule [] t.entries)).or <|
  (inSection .Z (firstFailure (fun v => firstFailure checkTrim v.toList) t.trims.toList)).or <|
  (inSection .A (firstFailure t.checkAction (List.finRange 32))).or <|
  inSection .G (firstFailure t.checkParam (List.finRange 7))

/-- The reason code shown in the commit status record (R56). -/
def Reason.code : Reason → Nat
  | .faceGeometry => 1
  | .faceOverlap => 2
  | .faceInService => 3
  | .faceCurveUnused => 4
  | .rateZero => 5
  | .curveCount => 6
  | .curveOrder => 7
  | .scheduleRange => 8
  | .scheduleDuplicate => 9
  | .trimRange => 10
  | .actionCode => 11
  | .parameterRange => 12

/-- The outcome of the checks of the commit in flight (R56). -/
def State.commitFailure (s : State) : Option (Reason × Sec) :=
  (resultingSet s.policy.commitWord.mask s.policy.staging s.policy.active).validate
    (Config.serviceBase s.strapImage)

end Sys2Proof.Machine
end

