-- ==== Sys2Proof/Machine/Policy.lean ====
section
/-! DEFINITION. Machine/Policy.lean: the policy page: immediate words, staging, face modes and the commit
(Chapter 3). -/

namespace Sys2Proof.Machine

/-! ### The mode image -/

/-- The records of a change of tracking state (R10): an onset into LOST, a clear out of it. -/
def State.trackRecords (s : State) (after : ModeImage) : List Notice :=
  if s.tracking && !after.tracking then [.record (s.mkRecord .bus 0 24 .onset 0)]
  else if !s.tracking && after.tracking then [.record (s.mkRecord .bus 0 24 .clear 0)]
  else []

/-- The state with another mode image. -/
def State.setMode (s : State) (m : ModeImage) : State := { s with tracker := { s.tracker with mode := m } }

/-- The tracker takes a declaration (R9, R10). -/
def State.declare (s : State) (c : ModeCodes) : State :=
  (s.setMode (codesImage c .declared)).hand (s.trackRecords (codesImage c .declared))

/-! ### Face modes (R44 to R47) -/

/-- The valid mode write of a code 1..4; none for the others (12.3). -/
def modeOfCode (c : Nat) : Option Mode :=
  match c with
  | 1 => some .run
  | 2 => some .hold
  | 3 => some .blank
  | 4 => some .dark
  | _ => none

/-- The code of a mode (12.3). -/
def Mode.code : Mode → Nat
  | .run => 1
  | .hold => 2
  | .blank => 3
  | .dark => 4

/-- A face at a valid mode write: the mode and the catch-up flag, and at an entry to DARK the changes of the Level
Engine, the Scan Supervisor and the Pixel Scaler (R44, R45, R98, R117, R133). -/
def FaceState.modeWrite (x : FaceState) (m : Mode) (catchUp : Bool) : FaceState :=
  let level := { x.level with catchUp := m == .run && catchUp }
  if m = .dark && x.mode != .dark then
    { x with mode := m, level := level.enterDark, scan := x.scan.toNoSignal, pixel := x.pixel.abandon }
  else { x with mode := m, level := level }

/-- A valid mode write of a configured face (R44, R45, R133). -/
def State.modeWrite (s : State) (f : Fin 8) (m : Mode) (catchUp : Bool) : State :=
  let t := s.modFace f fun x => x.modeWrite m catchUp
  if m = .dark && s.faces[f].mode != .dark && s.faces[f].scan.state == .stalled then t.endStall f else t

/-- A release request of a face (R153). -/
def State.releaseFace (s : State) (f : Fin 8) : State := s.modFace f fun x => { x with causes := x.causes.released }

/-- A whole write of face f's mode word (R44, R46). -/
def State.faceModeWord (s : State) (f : Fin 8) (w : Word) : State :=
  if !s.configured f then s
  else if bits w 0 3 = 7 then s.releaseFace f
  else
    match modeOfCode (bits w 0 3) with
    | some m => s.modeWrite f m (w.getLsbD 3)
    | none => s

/-! ### The commit -/

/-- A commit request (R54): refused and counted while one is in flight, else it starts. -/
def Policy.request (p : Policy) (mask : BitVec 6) (seq : Byte) : Policy :=
  if p.inFlight then { p with refused := satInc 255 p.refused }
  else
    { p with
      commitWord := { mask := mask, seq := seq }
      status := { seq := seq, state := .inFlight, failure := none, lost := 0 } }

/-- A write beat to a defined staged word (R37, R55). -/
def Policy.stage (p : Policy) (a : StagedAddr) (data : Word) (m : Mask) : Policy :=
  if !p.locked a.sec then { p with staging := p.staging.merge a data m }
  else if allMasked m then p
  else { p with status := { p.status with lost := satInc 255 p.status.lost } }

/-- Validation failure (R58). -/
def Policy.reject (p : Policy) (why : Reason × Sec) : Policy :=
  { p with status := { p.status with state := .rejected, failure := some why } }

/-- The switch in the Policy Block's own tables (R59). -/
def Policy.switched (p : Policy) : Policy :=
  { p with
    active := resultingSet p.commitWord.mask p.staging p.active
    status := { p.status with state := .accepted, failure := none } }

/-- A face's entry of the region table under an active record (R27). -/
def regionOf (r : FaceRecord) (old : Region) : Region :=
  if r.enabled then
    { configured := true, baseA := r.baseA, baseB := r.baseB, width := r.width, height := r.height, stride := r.stride }
  else { old with configured := false }

/-- What a switch announces for a face (R60). -/
inductive FaceChange where
  | configured | unconfigured | changed | none
deriving DecidableEq, Repr

/-- The announcement of face f from one active set to the next; two records are identical when every field is, a buffer
B base counting as none where buffer B is not present (R48, 12.4). -/
def faceChange (old new : Tables) (f : Fin 8) : FaceChange :=
  match (old.face f).enabled, (new.face f).enabled with
  | false, true => .configured
  | true, false => .unconfigured
  | true, true => if old.face f = new.face f then .none else .changed
  | false, false => .none

/-- The channel causes whose channel a new sensor mask does not hold lose their condition (R156). -/
def dropChannels (mask : BitVec 4) (cs : List Cause) : List Cause :=
  cs.map fun c => if (c.cls = 8 || c.cls = 9 || c.cls = 10) && !mask.getLsbD c.src then { c with cond := false } else c

/-- A face at its announcement (R60, R95, R101, R103 to R105, R119 to R121, R134, R156). The frame of a face that becomes
unconfigured is NONE (R121); that its count and sums become 0 too, as at an abandonment, is DEDUCED (log 16). -/
def FaceState.announce (x : FaceState) (ch : FaceChange) (fallback : Nat) (mask : BitVec 4) : FaceState :=
  match ch with
  | .configured =>
    { mode := .run, level := .configure fallback, pixel := .configure fallback, scan := .configure, causes := .reset }
  | .unconfigured =>
    { mode := .dark, level := { x.level with catchUp := false }, pixel := x.pixel.abandon
      scan := x.scan.toNoSignal, causes := .reset }
  | .changed =>
    { x with
      pixel := x.pixel.abandon, scan := x.scan.toNoSignal
      causes := { x.causes with blank := dropChannels mask x.causes.blank, derate := dropChannels mask x.causes.derate } }
  | .none => x

/-- The tile entries of a face at its announcement (R144). -/
def announceTiles (ch : FaceChange) (es : Vector TileEntry 32) : Vector TileEntry 32 :=
  match ch with
  | .configured => clearedTiles
  | .unconfigured => clearedTiles
  | _ => es

/-- The switch (R59, R60): the tables enter together, and each block applies the announcements at once. -/
def State.switched (s : State) : State :=
  let old := s.policy.active
  let new := s.policy.switched.active
  let s' : State :=
    { s with
      policy := s.policy.switched
      regions := tabulate fun f => regionOf (new.face f) s.regions[f]
      faces := tabulate fun f => s.faces[f].announce (faceChange old new f) s.fallbackLevel (new.face f).sensorMask
      tiles := { s.tiles with entries := tabulate fun f => announceTiles (faceChange old new f) s.tiles.entries[f] } }
  allFaces.foldl (fun t f => if faceChange old new f = .changed && s.faces[f].scan.state == .stalled then t.endStall f else t) s'

/-- VALIDATION_FAILURE (R58): happens only where a commit is in flight and a check of its resulting set fails. -/
def execValidationFailure (s : State) : Host.Outcome State Fault Refusal :=
  .next (
    if s.inReset || !s.policy.inFlight then s
    else match s.commitFailure with
      | some why => { s with policy := s.policy.reject why }
      | none => s)

/-- SWITCH (R59): happens only where a commit is in flight and its resulting set passes every check. -/
def execSwitch (s : State) : Host.Outcome State Fault Refusal :=
  .next (if s.inReset || !s.policy.inFlight || s.commitFailure.isSome then s else s.switched)

/-! ### Writes of the policy page -/

/-- A whole write of an immediate word (R39 to R44); offsets 12..15 do nothing. -/
def State.immediateWrite (s : State) (off : Nat) (w : Word) : State :=
  if off = 0 then
    if bits w 16 14 < 10080 && bits w 0 16 < 60000 then s.setTime (bits w 16 14) (bits w 0 16) else s
  else if off = 1 then
    if codesValid (declaredCodes w) then s.declare (declaredCodes w) else s
  else if off = 2 then
    { s with policy := s.policy.request (BitVec.ofNat 6 (bits w 0 6)) (BitVec.ofNat 8 (bits w 8 8)) }
  else if off = 3 then
    if w.getLsbD 0 then s.requestRestart else s
  else if off < 12 then s.faceModeWord (Fin.ofNat 8 (off - 4)) w
  else s

/-- A write beat of class service area at a policy offset (R37, R39, R169). -/
def State.policyWrite (s : State) (off : Nat) (data : Word) (m : Mask) : State :=
  if off < 16 then
    if whole m then s.immediateWrite off data else s
  else
    match stagedAddr off with
    | some a => { s with policy := s.policy.stage a data m }
    | none => s

/-! ### Reads of the policy page -/

/-- The time word (12.3): 0 in every bit while time-of-day is UNSET. -/
def TimeOfDay.word (d : TimeOfDay) : Word := if d.set then put 0 16 d.ms ||| put 16 14 d.minute ||| putBit 31 true else 0#32

/-- The source code of the mode image (12.3). -/
def ModeSource.code : ModeSource → Nat
  | .unknown => 0
  | .declared => 1
  | .loaded => 2

/-- The mode declaration word as it reads (R41, 12.3). -/
def ModeImage.word (m : ModeImage) : Word :=
  put 0 3 m.length.code ||| putBit 3 (m.order == .interleaved) ||| put 4 3 m.latency ||| putBit 7 m.writeSingle
    ||| put 8 2 m.source.code

/-- The mode that a face's mode word reads: DARK for a face that is not configured (R47). -/
def State.shownMode (s : State) (f : Fin 8) : Mode := if s.configured f then s.faces[f].mode else .dark

/-- The catch-up flag that reads: clear for a face that is not configured (R47). -/
def State.shownCatchUp (s : State) (f : Fin 8) : Bool := s.configured f && s.faces[f].level.catchUp

/-- The content of a policy offset (R38, R40 to R43, R47, R170). -/
def State.policyRead (s : State) (off : Nat) : Word :=
  if off = 0 then s.time.tod.word
  else if off = 1 then s.tracker.mode.word
  else if off = 2 then put 0 6 s.policy.commitWord.mask.toNat ||| put 8 8 s.policy.commitWord.seq.toNat
  else if off = 3 then putBit 0 s.report.restartPending
  else if off < 12 then
    put 0 3 (s.shownMode (Fin.ofNat 8 (off - 4))).code ||| putBit 3 (s.shownCatchUp (Fin.ofNat 8 (off - 4)))
  else
    match stagedAddr off with
    | some a => s.policy.staging.get a
    | none => 0#32

end Sys2Proof.Machine
end

