-- ==== Sys2Proof/Machine/Report.lean ====
section
/-! DEFINITION. Machine/Report.lean: the record queue's consumer, the report slots, the lock, and the report page as
it reads (Chapters 11 and 12). -/

namespace Sys2Proof.Machine

/-! ### The slot writer (R159, R160) -/

/-- The slots in order. -/
def allSlots : List (Fin 32) := List.finRange 32

/-- The slot matches the record: the keys agree in every bit of the filter mask (R159). -/
def Slot.fits (x : Slot) (r : Record) : Bool := (x.filterKey ^^^ r.key) &&& x.filterMask == 0#16

/-- Slot k is a candidate for the record: it matches, is not INACTIVE and not BUSY, and is not locked (R159). -/
def Report.candidate (p : Report) (r : Record) (k : Fin 32) : Bool :=
  p.slots[k].fits r && p.slots[k].code != .inactive && p.slots[k].code != .busy && p.lock != some k

/-- The slot chosen for a record: the lowest-numbered EMPTY candidate, else the highest-numbered one (R159). -/
def Report.chosen (p : Report) (r : Record) : Option (Fin 32) :=
  let cs := allSlots.filter fun k => p.candidate r k
  match cs.find? fun k => p.slots[k].code == .empty with
  | some k => some k
  | none => cs.getLast?

/-- A slot that has been chosen: BUSY, keeping the code and count it had (R159). -/
def Slot.busy (x : Slot) : Slot :=
  { x with code := .busy, former := some { code := x.code, overwrites := x.overwrites }, record := none, overwrites := 0 }

/-- The choice: the front record takes a slot, or is dropped for want of one and the next is tried (R159). -/
def Report.chooseFrom (p : Report) : List Record → Report
  | [] => { p with queue := [] }
  | r :: rest =>
    match p.chosen r with
    | some k => { p with queue := rest, writer := some (r, k), slots := p.slots.set k p.slots[k].busy }
    | none => Report.chooseFrom { p with drop := satInc max16 p.drop } rest

/-- A choice is made where the writer is IDLE (R159). -/
def Report.choice (p : Report) : Report :=
  match p.writer with
  | none => p.chooseFrom p.queue
  | some _ => p

/-- A slot at its write end (R160). -/
def Slot.written (x : Slot) (r : Record) : Slot :=
  match x.former with
  | some { code := .full, overwrites := n } =>
    { x with code := .overrun, former := none, record := some r, overwrites := satInc 255 n }
  | some { code := .overrun, overwrites := n } =>
    { x with code := .overrun, former := none, record := some r, overwrites := satInc 255 n }
  | _ => { x with code := .full, former := none, record := some r, overwrites := 0 }

/-- The write end, and the next choice at the same event (R160). -/
def Report.writeEnd (p : Report) : Report :=
  match p.writer with
  | some (r, k) => Report.choice { p with writer := none, slots := p.slots.set k (p.slots[k].written r) }
  | none => p

/-- The state with the Report Block changed by g. -/
def State.modReport (s : State) (g : Report → Report) : State := { s with report := g s.report }

/-- RECORD (R148): the Constraint Block takes the oldest record handed to it. A record that finds the writer IDLE is
chosen for at the same event (R159). -/
def execRecord (s : State) : Host.Outcome State Fault Refusal :=
  .next (
    if s.inReset then s
    else match s.inbox with
      | .record r :: rest => ((s.takeRecord r).modReport Report.choice).drain rest
      | rest => s.drain rest)

/-- CHOICE (R159): made within the RECORD or WRITE_END that calls for it; on its own it makes the choice that a state
with an IDLE writer and records waiting calls for (log 8). -/
def execChoice (s : State) : Host.Outcome State Fault Refusal :=
  .next (if s.inReset then s else s.modReport Report.choice)

/-- WRITE_END (R160). -/
def execWriteEnd (s : State) : Host.Outcome State Fault Refusal :=
  .next (if s.inReset then s else s.modReport Report.writeEnd)

/-! ### Host writes (R161, R162) -/

/-- The lock without slot k. -/
def unlock (l : Option (Fin 32)) (k : Fin 32) : Option (Fin 32) := if l = some k then none else l

/-- A slot emptied or made inactive: record and overwrite count cleared (R158, R161). -/
def Slot.clearedTo (x : Slot) (c : SlotCode) : Slot := { x with code := c, record := none, overwrites := 0 }

/-- A whole write of slot k's header word whose code field is c (R161). -/
def Report.headerWrite (p : Report) (k : Fin 32) (c : Nat) : Report :=
  if p.slots[k].code = .busy then p
  else if c = 1 then
    if p.slots[k].code = .empty then p
    else { p with slots := p.slots.set k (p.slots[k].clearedTo .empty), lock := unlock p.lock k }
  else if c = 0 then { p with slots := p.slots.set k (p.slots[k].clearedTo .inactive), lock := unlock p.lock k }
  else p

/-- The filter word of a slot (12.6). -/
def Slot.filterWord (x : Slot) : Word := put 0 16 x.filterKey.toNat ||| put 16 16 x.filterMask.toNat

/-- The slot with the filter key and mask of a filter word (12.6). -/
def Slot.withFilter (x : Slot) (w : Word) : Slot :=
  { x with filterKey := BitVec.ofNat 16 (bits w 0 16), filterMask := BitVec.ofNat 16 (bits w 16 16) }

/-- A write beat at slot k's filter word: lane by lane, only while INACTIVE (R162). -/
def Report.filterWrite (p : Report) (k : Fin 32) (data : Word) (m : Mask) : Report :=
  if p.slots[k].code = .inactive then
    { p with slots := p.slots.set k (p.slots[k].withFilter (mergeLanes p.slots[k].filterWord data m)) }
  else p

/-- The slot and the word within it at a report offset (R165). -/
def slotWord (off : Nat) : Option (Fin 32 × Nat) :=
  if 1032 ≤ off && off < 1288 then some (Fin.ofNat 32 ((off - 1032) / 8), (off - 1032) % 8) else none

/-- A write beat of class service area at a report offset (R161, R162, R169). -/
def State.reportWrite (s : State) (off : Nat) (data : Word) (m : Mask) : State :=
  match slotWord off with
  | some (k, 0) => if whole m then s.modReport fun p => p.headerWrite k (bits data 0 3) else s
  | some (k, 1) => s.modReport fun p => p.filterWrite k data m
  | _ => s

/-! ### Reads (R163 to R166, R170, 12.6) -/

/-- What a delivered read of a report offset does to the lock (R163). -/
def Report.readLock (p : Report) (off : Nat) : Report :=
  if off = 1 then { p with lock := none }
  else
    match slotWord off with
    | some (k, 0) => { p with lock := if p.slots[k].code.holds then some k else none }
    | _ => p

/-- The code of a slot as it reads (12.6). -/
def SlotCode.code : SlotCode → Nat
  | .inactive => 0
  | .empty => 1
  | .full => 2
  | .overrun => 3
  | .busy => 4

/-- The code of a record's event (12.6). -/
def EventKind.code : EventKind → Nat
  | .onset => 1
  | .clear => 2
  | .occurrence => 3

/-- Word w of a record's three record words (12.6). -/
def Record.word (r : Record) (w : Nat) : Word :=
  match w with
  | 2 => put 0 16 r.key.toNat ||| put 16 2 r.event.code
  | 3 => put 0 16 r.value.toNat ||| put 16 16 r.minute.toNat
  | 4 => r.stamp
  | _ => 0#32

/-- Word w of a slot (R164). -/
def Slot.word (x : Slot) (w : Nat) : Word :=
  match w with
  | 0 => put 0 3 x.code.code ||| put 8 8 x.overwrites
  | 1 => if x.code = .busy then 0#32 else x.filterWord
  | w =>
    if x.code.holds then
      match x.record with
      | some r => r.word w
      | none => 0#32
    else 0#32

/-- An item word: identity and the report offset of the next item (12.6). -/
def itemWord (identity next : Nat) : Word := put 0 8 identity ||| put 16 11 next

/-- The strap image word of the header item (12.6). -/
def strapWord (p : Straps) : Word :=
  put 0 2 p.svc.toNat ||| putBit 2 p.map ||| put 4 2 p.fb.toNat ||| putBit 6 p.clk

/-- The code of a commit state (12.6). -/
def CommitState.code : CommitState → Nat
  | .idle => 0
  | .inFlight => 1
  | .accepted => 2
  | .rejected => 3

/-- The code of a section in the commit status record (12.6). -/
def Sec.code (x : Sec) : Nat := x.bit + 1

/-- The commit status word (12.6): the reason and section of a rejection, else 0. -/
def CommitStatus.word (c : CommitStatus) : Word :=
  put 0 8 c.seq.toNat ||| put 8 2 c.state.code
    ||| (match c.failure with
      | some (r, x) => put 12 4 r.code ||| put 16 3 x.code
      | none => 0#32)
    ||| put 24 8 c.lost

/-- The configured-face bits of the header item (12.6). -/
def State.faceBits (s : State) : Word := allFaces.foldl (fun w f => w ||| putBit (8 + f.val) (s.configured f)) 0#32

/-- Word w of the header item (12.6). -/
def State.headerWord (s : State) (w : Nat) : Word :=
  match w with
  | 0 => itemWord 1 32
  | 1 => s.time.stamp
  | 2 => put 0 16 2240 ||| put 16 8 0x42
  | 3 => strapWord s.strapImage
  | 4 => s.time.tod.word
  | 5 => s.tracker.mode.word ||| putBit 16 s.tracking
  | 6 => putBit 0 s.isConfigured ||| s.faceBits
  | 7 => s.policy.status.word
  | 8 => put 0 8 s.policy.refused ||| putBit 16 s.report.restartPending
  | 9 => put 0 16 s.report.drop ||| put 16 5 s.report.queue.length ||| put 24 3 s.tracker.queue.length
  | 10 => put 0 16 s.light.shortFrames
  | 11 => put 0 16 s.tiles.errors ||| put 16 16 s.tiles.discarded
  | _ => 0#32

/-- The code of a scan state (12.6). -/
def ScanMode.code : ScanMode → Nat
  | .noSignal => 0
  | .scanning => 1
  | .stalled => 2

/-- The distinct class codes of a cause set, ascending (R166). -/
def causeCodes (cs : List Cause) : List Nat := (List.range 32).filter fun k => cs.any fun c => c.cls == k

/-- Word j of a cause list's three code words: one code per byte from lane 0 (12.6). -/
def codesWord (ks : List Nat) (j : Nat) : Word :=
  put 0 8 (ks.getD (4 * j) 0) ||| put 8 8 (ks.getD (4 * j + 1) 0) ||| put 16 8 (ks.getD (4 * j + 2) 0)
    ||| put 24 8 (ks.getD (4 * j + 3) 0)

/-- Word j of a cause list: its number of codes, then the codes (12.6). -/
def causeListWord (cs : List Cause) (j : Nat) : Word :=
  if j = 0 then put 0 4 (causeCodes cs).length else codesWord (causeCodes cs) (j - 1)

/-- The greatest of a list of values, 0 where it is empty. -/
def greatest (vs : List Nat) : Nat := vs.foldl max 0

/-- The tile summary of a face (R145, 12.6). -/
def tileSummary (es : List TileEntry) : Word :=
  let live := es.filter fun e => e.heard && !e.silent
  put 0 6 (es.filter (·.heard)).length ||| put 8 6 (es.filter (·.silent)).length
    ||| put 16 8 (greatest (live.map (·.temp.toNat))) ||| put 24 8 (greatest (live.map (·.openCount.toNat)))

/-- Word w of the face item of face f; `next` is the offset of the following item (12.6). -/
def State.faceWord (s : State) (f : Fin 8) (next w : Nat) : Word :=
  let x := s.faces[f]
  match w with
  | 0 => itemWord 2 next
  | 1 => put 0 3 f.val ||| put 8 3 (s.shownMode f).code ||| putBit 11 (s.shownCatchUp f) ||| put 16 2 x.scan.state.code
      ||| putBit 20 (x.scan.displayed == .B)
  | 2 => put 0 16 (x.level.light.getD 0) ||| putBit 16 x.level.light.isNone
  | 3 => put 0 12 x.level.curve ||| put 16 12 x.level.cap
  | 4 => put 0 12 x.level.target ||| put 16 12 x.level.output
  | 5 => put 0 13 x.pixel.factor ||| put 16 13 x.pixel.aplFactor
  | 6 => put 0 10 x.pixel.aplIn ||| put 16 10 x.pixel.aplOut
  | 7 => x.pixel.frames
  | 8 => put 0 16 x.scan.liveWrites ||| put 16 8 x.causes.clean
  | 9 => causeListWord x.causes.blank 0
  | 10 => causeListWord x.causes.blank 1
  | 11 => causeListWord x.causes.blank 2
  | 12 => causeListWord x.causes.blank 3
  | 13 => causeListWord x.causes.derate 0
  | 14 => causeListWord x.causes.derate 1
  | 15 => causeListWord x.causes.derate 2
  | 16 => causeListWord x.causes.derate 3
  | 17 => tileSummary s.tiles.entries[f].toList
  | _ => 0#32

/-- Word w of the channel item of channel c (12.6). -/
def State.channelWord (s : State) (c : Fin 4) (next w : Nat) : Word :=
  let x := s.light.channels[c]
  match w with
  | 0 => itemWord 3 next
  | 1 => put 0 2 c.val ||| putBit 4 (x.state == .fresh) ||| putBit 5 x.satRun ||| put 8 4 x.window.length
  | 2 => put 0 16 (x.filtered.getD 0)
  | 3 => put 0 16 x.samples ||| put 16 16 x.bad
  | 4 => put 0 16 x.consecBad
  | 5 => x.lastGood.getD 0#32
  | _ => 0#32

/-- The configured faces in face order (R165). -/
def State.configuredFaces (s : State) : List (Fin 8) := allFaces.filter fun f => s.configured f

/-- The content of a report offset (R164, R165, R166, R170). -/
def State.reportRead (s : State) (off : Nat) : Word :=
  let n := s.configuredFaces.length
  if off < 32 then s.headerWord off
  else if off < 32 + 48 * n then
    match s.configuredFaces[(off - 32) / 48]? with
    | some f => s.faceWord f (32 + 48 * ((off - 32) / 48 + 1)) ((off - 32) % 48)
    | none => 0#32
  else if off < 96 + 48 * n then
    let c := (off - 32 - 48 * n) / 16
    s.channelWord (Fin.ofNat 4 c) (if c < 3 then 48 + 48 * n + 16 * c else 1024) ((off - 32 - 48 * n) % 16)
  else if off = 1024 then itemWord 4 0
  else
    match slotWord off with
    | some (k, w) => s.report.slots[k].word w
    | none => 0#32

end Sys2Proof.Machine
end

