-- ==== Sys2Proof/Machine/Beats.lean ====
section
/-! DEFINITION. Machine/Beats.lean: what becomes of a delivered beat of each class (R34), and the commands that are
one delivered beat of the service area. -/

namespace Sys2Proof.Machine

/-! ### Delivered beats -/

/-- The part re-drives a write beat toward the store (R34, R35). -/
def State.driveStore (s : State) (data : Word) (m : Mask) : State := { s with bus := { s.bus with toStore := some (data, m) } }

/-- A write beat of a class goes to the blocks that snoop it (R34). -/
def State.takeWrite (s : State) (c : BeatClass) (data : Word) (m : Mask) : State :=
  match c with
  | .unattributed => s
  | .policy off => s.policyWrite off data m
  | .report off => s.reportWrite off data m
  | .pixel f b _ _ _ => s.liveWrite f b
  | .padding f b => s.liveWrite f b
  | .other _ => s

/-- A read beat of a class, with the store's word (R34, R107). -/
def State.takeRead (s : State) (c : BeatClass) (w : Word) : State :=
  match c with
  | .unattributed => s.deliver (scaleWord s.fallbackFactor w)
  | .policy off => s.deliver (s.policyRead off)
  | .report off => (s.deliver (s.reportRead off)).modReport fun p => p.readLock off
  | .pixel f b _ line z => s.pixelRead f b line z w
  | .padding _ _ => s.deliver w
  | .other configured => s.deliver (if configured then w else scaleWord s.fallbackFactor w)

/-- A write beat handed over with its word address or unattributed (R20, R29). -/
def State.writeBeat (s : State) (w : Option Nat) (data : Word) (m : Mask) : State := s.takeWrite (s.classify w) data m

/-- A read beat handed over with its word address or unattributed (R20, R29). -/
def State.readBeat (s : State) (w : Option Nat) (data : Word) : State := s.takeRead (s.classify w) data

/-! ### Commands that are one delivered beat of the service area

In reset, words the controller drives toward the store pass and no block snoops them (R110); while the store is not
AWAKE no beat passes (R1, R2). -/

/-- A write beat at a service offset, taken on its own. -/
def State.serviceWrite (s : State) (off : Nat) (data : Word) (m : Mask) : State :=
  if s.inReset then s.driveStore data m
  else if !s.takesBus then s
  else
    (s.driveStore data m).takeWrite (if off < 2048 then .policy off else .report (off - 2048)) data m

/-- A read beat at a report offset, taken on its own; the store's word does not reach the controller (R30). -/
def State.reportReadBeat (s : State) (off : Nat) : State := if s.takesBus then s.takeRead (.report off) 0#32 else s

/-- STAGING_WRITE (R37, R55). -/
def execStagingWrite (off : Fin 2048) (data : Word) (m : Mask) (s : State) : Host.Outcome State Fault Refusal :=
  .next (s.serviceWrite off.val data m)

/-- TIME_WORD_WRITE (R40, R68). -/
def execTimeWordWrite (data : Word) (m : Mask) (s : State) : Host.Outcome State Fault Refusal :=
  .next (s.serviceWrite 0 data m)

/-- MODE_DECLARATION (R9, R41). -/
def execModeDeclaration (data : Word) (m : Mask) (s : State) : Host.Outcome State Fault Refusal :=
  .next (s.serviceWrite 1 data m)

/-- COMMIT_REQUEST (R42, R54). -/
def execCommitRequest (data : Word) (m : Mask) (s : State) : Host.Outcome State Fault Refusal :=
  .next (s.serviceWrite 2 data m)

/-- RESTART_REQUEST (R43, R167). -/
def execRestartRequest (data : Word) (m : Mask) (s : State) : Host.Outcome State Fault Refusal :=
  .next (s.serviceWrite 3 data m)

/-- The mode word of a code with a CATCH-UP flag (12.3). -/
def modeWord (code : Nat) (catchUp : Bool) : Word := put 0 3 code ||| putBit 3 catchUp

/-- RUN (R44, R45, R99). -/
def execRun (f : Fin 8) (catchUp : Bool) (m : Mask) (s : State) : Host.Outcome State Fault Refusal :=
  .next (s.serviceWrite (4 + f.val) (modeWord 1 catchUp) m)

/-- HOLD (R44). -/
def execHold (f : Fin 8) (catchUp : Bool) (m : Mask) (s : State) : Host.Outcome State Fault Refusal :=
  .next (s.serviceWrite (4 + f.val) (modeWord 2 catchUp) m)

/-- BLANK (R44). -/
def execBlank (f : Fin 8) (catchUp : Bool) (m : Mask) (s : State) : Host.Outcome State Fault Refusal :=
  .next (s.serviceWrite (4 + f.val) (modeWord 3 catchUp) m)

/-- DARK (R44, R45, R98, R133). -/
def execDark (f : Fin 8) (catchUp : Bool) (m : Mask) (s : State) : Host.Outcome State Fault Refusal :=
  .next (s.serviceWrite (4 + f.val) (modeWord 4 catchUp) m)

/-- RELEASE (R46, R153). -/
def execRelease (f : Fin 8) (catchUp : Bool) (m : Mask) (s : State) : Host.Outcome State Fault Refusal :=
  .next (s.serviceWrite (4 + f.val) (modeWord 7 catchUp) m)

/-- The service offset of word w of slot k (R165). -/
def slotOffset (k : Fin 32) (w : Nat) : Nat := 2048 + 1032 + 8 * k.val + w

/-- ACKNOWLEDGMENT (R161): a write of EMPTY to a slot's header word. -/
def execAcknowledgment (k : Fin 32) (m : Mask) (s : State) : Host.Outcome State Fault Refusal :=
  .next (s.serviceWrite (slotOffset k 0) 1#32 m)

/-- SLOT_INACTIVE (R161): a write of INACTIVE to a slot's header word. -/
def execSlotInactive (k : Fin 32) (m : Mask) (s : State) : Host.Outcome State Fault Refusal :=
  .next (s.serviceWrite (slotOffset k 0) 0#32 m)

/-- FILTER_WRITE (R162). -/
def execFilterWrite (k : Fin 32) (data : Word) (m : Mask) (s : State) : Host.Outcome State Fault Refusal :=
  .next (s.serviceWrite (slotOffset k 1) data m)

/-- RESERVED_WRITE (R169). -/
def execReservedWrite (off : Fin 4096) (data : Word) (m : Mask) (s : State) : Host.Outcome State Fault Refusal :=
  .next (s.serviceWrite off.val data m)

/-- HEADER_READ (R163, R164). -/
def execHeaderRead (k : Fin 32) (s : State) : Host.Outcome State Fault Refusal :=
  .next (s.reportReadBeat (1032 + 8 * k.val))

/-- STAMP_WORD_READ (R65, R163). -/
def execStampWordRead (s : State) : Host.Outcome State Fault Refusal :=
  .next (s.reportReadBeat 1)

end Sys2Proof.Machine
end

