-- ==== Sys2Proof/Machine/Bus.lean ====
section
/-! DEFINITION. Machine/Bus.lean: the Bus Tracker: positions, the burst in flight, the read-return queue and the bus
commands (Chapter 1).

A position is taken in the order of R3: the return of a due beat (READ_BEAT_RETURN or UNPLACED_ARRIVAL), the command,
the issue of the burst's beat (BURST_BEAT_ISSUE or BURST_COMPLETE). A bus command takes the next position. What a
position holds and no command brought is filled in as bus lines with every mask asserted: a due beat returns masked,
a write beat is issued with all four lanes masked (log 4). -/

namespace Sys2Proof.Machine

/-- The state with another tracker. -/
def State.setTracker (s : State) (t : Tracker) : State := { s with tracker := t }

/-- The store state of the tracker becomes another. -/
def State.setStore (s : State) (x : StoreState) : State := s.setTracker { s.tracker with store := x }

/-! ### The read-return queue (R16) -/

/-- An entry stays in the queue until its burst has stopped issuing and every issued beat has returned (R16). -/
def ReadEntry.stays (e : ReadEntry) : Bool := e.issuing || e.issued != e.returned

/-- The entries that stay. -/
def staying (q : List ReadEntry) : List ReadEntry := q.filter ReadEntry.stays

/-- A beat returns to the oldest entry whose beats issued exceed its beats returned (R16). -/
def returnBeat : List ReadEntry → List ReadEntry
  | [] => []
  | e :: es => if e.returned < e.issued then { e with returned := e.returned + 1 } :: es else e :: returnBeat es

/-- The entry the next beat returns to. -/
def returning : List ReadEntry → Option ReadEntry
  | [] => none
  | e :: es => if e.returned < e.issued then some e else returning es

/-- The word address of the beat that an entry takes next; none where the row is absent (R16, R20). -/
def ReadEntry.address (map : Bool) (e : ReadEntry) : Option Nat :=
  e.row.map fun r => wordAddress map e.bank r (burstColumn e.length e.order e.start e.returned)

/-- The tracker after one due beat has returned (R16). -/
def Tracker.returned (t : Tracker) : Tracker := { t with queue := staying (returnBeat t.queue), due := t.due.tail }

/-- The oldest outstanding beat is due at position p. -/
def Tracker.dueAt (t : Tracker) (p : Nat) : Bool :=
  match t.due with
  | d :: _ => d ≤ p
  | [] => false

/-! ### The burst in flight (R11 to R14, R19) -/

/-- The read entry still issuing. -/
def Tracker.reading (t : Tracker) : Option ReadEntry := t.queue.find? (·.issuing)

/-- The bank and autoclose option of the burst in flight, read or write. -/
def Tracker.burst (t : Tracker) : Option (Fin 4 × Bool) :=
  match t.write with
  | some w => some (w.bank, w.autoclose)
  | none => t.reading.map fun e => (e.bank, e.autoclose)

/-- The tracker with one bank in another state. -/
def Tracker.setBank (t : Tracker) (b : Fin 4) (x : Bank) : Tracker := { t with banks := t.banks.set b x }

/-- The tracker with every bank in one state. -/
def Tracker.setBanks (t : Tracker) (x : Bank) : Tracker := { t with banks := tabulate fun _ => x }

/-- The burst in flight stops issuing: a read entry is marked truncated, a write burst ceases to exist (R12). -/
def Tracker.stopBurst (t : Tracker) : Tracker :=
  { t with
    write := none
    queue := staying (t.queue.map fun e => if e.issuing then { e with issuing := false, truncated := true } else e) }

/-- What ends a burst early (R13). -/
inductive EndedBy where
  /-- A READ or WRITE to a bank. -/
  | access (bank : Fin 4)
  | burstStop
  /-- A CLOSE, CLOSE-ALL, SLEEP-ENTER, REFRESH or MODE-LOAD: the command itself gives the bank its state. -/
  | command
deriving DecidableEq, Repr

/-- Whether an autoclose burst on a bank closes it when it is ended early (R13, R14). -/
def EndedBy.closes (e : EndedBy) (bank : Fin 4) : Bool :=
  match e with
  | .access b => b != bank
  | .burstStop => true
  | .command => false

/-- The burst in flight is ended (R12, R13). -/
def Tracker.endBurst (t : Tracker) (e : EndedBy) : Tracker :=
  match t.burst with
  | some (b, auto) => if auto && e.closes b then t.stopBurst.setBank b .idle else t.stopBurst
  | none => t

/-- The fixed length is reached: the burst completes with this beat (R11). -/
def lastBeat (len : BurstLength) (issued : Nat) : Bool :=
  match len.beats with
  | some n => n ≤ issued
  | none => false

/-- The read burst in flight issues a beat, due one read latency later, and may complete (R11, R13, R16). -/
def Tracker.issueRead (t : Tracker) (e : ReadEntry) : Tracker :=
  let done := lastBeat e.length (e.issued + 1)
  let t1 : Tracker :=
    { t with
      queue := t.queue.map fun x => if x.issuing then { x with issued := x.issued + 1, issuing := !done } else x
      due := t.due ++ [t.position + t.mode.latency]
      beatDone := true }
  if done && e.autoclose then t1.setBank e.bank .idle else t1

/-- The write burst in flight issues a beat and may complete (R11, R13, R19). -/
def Tracker.issueWrite (t : Tracker) (w : WriteBurst) : Tracker :=
  let done := w.lengthKnown && lastBeat w.length (w.issued + 1)
  let t1 : Tracker := { t with write := if done then none else some { w with issued := w.issued + 1 }, beatDone := true }
  if done && w.autoclose then t1.setBank w.bank .idle else t1

/-- The word address of a write burst's next beat; none where the row is absent, or past the first beat of a burst
whose length is not known (R19, R20). -/
def WriteBurst.address (map : Bool) (w : WriteBurst) : Option Nat :=
  if w.lengthKnown || w.issued == 0 then w.row.map fun r => wordAddress map w.bank r w.nextColumn else none

/-- The burst in flight issues its next beat at the current position; a write beat is handed over (R11, R19, R20). -/
def State.issueBeat (s : State) (data : Word) (m : Mask) : State :=
  match s.tracker.write with
  | some w => (s.setTracker (s.tracker.issueWrite w)).writeBeat (w.address s.strapImage.map) data m
  | none =>
    match s.tracker.reading with
    | some e => s.setTracker (s.tracker.issueRead e)
    | none => s

/-! ### Positions (R1, R3) -/

/-- The current position's beat issue, where no command brought it: all four lanes masked (log 4). -/
def State.finishPosition (s : State) : State := if s.tracker.beatDone then s else s.issueBeat 0#32 0xF#4

/-- A due beat returns masked where no command brought it: it counts as returned and is not delivered (R16; log 4). -/
def State.returnMasked (s : State) : State :=
  if s.tracker.dueAt s.tracker.position then (s.setTracker s.tracker.returned).settleRestart else s

/-- The next position begins: the last one's beat issue is finished, and a beat due now has returned (R3). -/
def State.beginPosition (s : State) : State :=
  let s := s.finishPosition
  (s.setTracker { s.tracker with
    position := s.tracker.position + 1, beatDone := false, resumed := false, arrived := false }).returnMasked

/-- n positions pass with no command. -/
def State.passPositions (s : State) : Nat → State
  | 0 => s
  | n + 1 => s.beginPosition.passPositions n

/-- The next position passes with no command where c says that it has begun. -/
def State.passBegun (s : State) (c : Bool) : State := if c then s.beginPosition else s

/-- The positions before the one at which the oldest outstanding beat is due pass with no command. -/
def State.untilDue (s : State) : State :=
  match s.tracker.due with
  | d :: _ => (s.passPositions (d - (s.tracker.position + 1))).finishPosition
  | [] => s

/-- The part re-drives a command toward the store. -/
def State.driveCommand (s : State) (c : BusCommand) : State := { s with bus := { s.bus with command := c } }

/-- The next position's read data have come. -/
def State.noteArrival (s : State) : State := s.setTracker { s.tracker with arrived := true }

/-- A bus command: re-driven toward the store whatever the part does with it, and taken at the next position where
the part is out of reset and the store AWAKE (R1, R2, R22). Where it leaves the read-return queue empty, a pending
restart takes effect (R167), before the records that the command itself hands over are taken, though R156 lets either
come first: DESIGN CHOICE, log 28. -/
def State.busCommand (s : State) (c : BusCommand) (f : State → State) : State :=
  if s.takesBus then (f (s.driveCommand c).beginPosition).settleRestart else s.driveCommand c

/-! ### Anomalies (R21) -/

/-- A BUS ANOMALY occurrence record of a kind is handed over (R21). -/
def State.anomaly (s : State) (kind : Nat) : State := s.handRecord (s.mkRecord .bus 0 25 .occurrence kind)

/-- An anomaly where a condition holds. -/
def State.anomalyIf (s : State) (c : Bool) (kind : Nat) : State := if c then s.anomaly kind else s

/-! ### The commands -/

/-- An OPEN taken (R4). -/
def State.takeOpen (s : State) (b : Fin 4) (r : Row) : State :=
  (s.anomalyIf s.tracker.banks[b].isOpen 2).setTracker (s.tracker.setBank b (.opened r))

/-- AUTOCLOSE-INTERRUPTED: an access to the bank of the autoclose burst in flight (R14). -/
def Tracker.interrupts (t : Tracker) (b : Fin 4) : Bool :=
  match t.burst with
  | some (c, auto) => auto && c == b
  | none => false

/-- The common part of READ and WRITE: kind 8, the end of the burst in flight, then kind 1 on an IDLE bank (R12,
R14, R15, R19). -/
def State.access (s : State) (b : Fin 4) : State :=
  let s := (s.anomalyIf (s.tracker.interrupts b) 8)
  let s := s.setTracker (s.tracker.endBurst (.access b))
  s.anomalyIf (s.tracker.banks[b] == .idle) 1

/-- The row an entry or write burst takes from its bank. -/
def Bank.row : Bank → Option Row
  | .opened r => some r
  | _ => none

/-- A READ taken (R15): an entry is made while TRACKING on a bank that is not IDLE, and issues its first beat. -/
def State.takeReadCommand (s : State) (b : Fin 4) (c : Column) (auto : Bool) : State :=
  let s := s.access b
  let t := s.tracker
  if t.mode.tracking && t.banks[b] != .idle then
    (s.setTracker { t with
      queue := t.queue ++ [{
        bank := b, row := t.banks[b].row, start := c, length := t.mode.length, order := t.mode.order, issued := 0
        returned := 0, autoclose := auto, truncated := false, issuing := true }] }).issueBeat 0#32 0#4
  else s

/-- The length and order a WRITE starts with (R11, R19): write-single is a burst of 1; a burst started while LOST
runs as a full-row burst. -/
def ModeImage.writeShape (m : ModeImage) : BurstLength × BurstOrder :=
  if !m.tracking then (.fullRow, .sequential)
  else if m.writeSingle then (.one, m.order)
  else (m.length, m.order)

/-- A WRITE taken (R19), with its first beat. -/
def State.takeWriteCommand (s : State) (b : Fin 4) (c : Column) (auto : Bool) (data : Word) (m : Mask) : State :=
  let s := s.access b
  let t := s.tracker
  (s.setTracker { t with
    write := some {
      bank := b, row := t.banks[b].row, start := c, length := t.mode.writeShape.1, order := t.mode.writeShape.2
      issued := 0, autoclose := auto, lengthKnown := t.mode.tracking } }).issueBeat data m

/-- A CLOSE taken (R5). -/
def Tracker.takeClose (t : Tracker) (b : Fin 4) : Tracker :=
  let t := match t.burst with
    | some (c, _) => if c = b then t.endBurst .command else t
    | none => t
  t.setBank b .idle

/-- A REFRESH taken with clock-enable high (R6). -/
def State.takeRefresh (s : State) : State :=
  if s.tracker.anyOpen then (s.anomaly 3).setTracker ((s.tracker.endBurst .command).setBanks .unknown) else s

/-- A SLEEP-ENTER taken (R2, R131). -/
def State.takeSleep (s : State) : State :=
  let t := s.tracker.endBurst .command
  let t : Tracker := { t with queue := [], due := [], store := .asleep, beatDone := true }
  ((s.anomalyIf s.tracker.anyOpen 5).setTracker (if s.tracker.anyOpen then t.setBanks .idle else t)).haltStallTimers

/-- A MODE-LOAD taken (R7, R8, R10). -/
def State.takeModeLoad (s : State) (c : ModeCodes) : State :=
  let opened := s.tracker.anyOpen
  let t := s.tracker.endBurst .command
  let t := if opened then t.setBanks .unknown else t
  if codesValid c then
    ((s.anomalyIf opened 4).hand (s.trackRecords (codesImage c .loaded))).setTracker { t with mode := codesImage c .loaded }
  else
    let m := { s.tracker.mode with source := .unknown }
    (((s.anomalyIf opened 4).anomaly 7).hand (s.trackRecords m)).setTracker
      { t with mode := m, queue := [], due := [] }

/-- OPEN (R4). -/
def execOpen (b : Fin 4) (r : Row) (s : State) : Host.Outcome State Fault Refusal :=
  .next (s.busCommand (.openBank b r) fun s => s.takeOpen b r)

/-- READ (R12, R14, R15). -/
def execRead (b : Fin 4) (c : Column) (auto : Bool) (s : State) : Host.Outcome State Fault Refusal :=
  .next (s.busCommand (.read b c auto) fun s => s.takeReadCommand b c auto)

/-- WRITE (R12, R14, R19). -/
def execWrite (b : Fin 4) (c : Column) (auto : Bool) (data : Word) (m : Mask) (s : State) : Host.Outcome State Fault Refusal :=
  .next (((s.driveStore data m)).busCommand (.write b c auto) fun s => s.takeWriteCommand b c auto data m)

/-- CLOSE (R5). -/
def execClose (b : Fin 4) (s : State) : Host.Outcome State Fault Refusal :=
  .next (s.busCommand (.close b) fun s => s.setTracker (s.tracker.takeClose b))

/-- CLOSE_ALL (R5). -/
def execCloseAll (s : State) : Host.Outcome State Fault Refusal :=
  .next (s.busCommand .closeAll fun s => s.setTracker ((s.tracker.endBurst .command).setBanks .idle))

/-- REFRESH (R6). -/
def execRefresh (s : State) : Host.Outcome State Fault Refusal :=
  .next (s.busCommand .refresh fun s => s.takeRefresh)

/-- SLEEP_ENTER (R2): clock-enable is first found low at its edge, so a RESUME's edge is a position before it. -/
def execSleepEnter (s : State) : Host.Outcome State Fault Refusal :=
  .next ((s.passBegun (s.takesBus && s.tracker.resumed)).busCommand .sleepEnter fun s => s.takeSleep)

/-- SLEEP_EXIT (R2, R131): happens only while the store is ASLEEP; its edge is a position. -/
def execSleepExit (s : State) : Host.Outcome State Fault Refusal :=
  .next (
    if s.inReset || s.tracker.store != .asleep then s.driveCommand .sleepExit
    else
      (((s.driveCommand .sleepExit).setStore .awake).beginPosition).restartStallTimers)

/-- MODE_LOAD (R7, R8). -/
def execModeLoad (c : ModeCodes) (s : State) : Host.Outcome State Fault Refusal :=
  .next (s.busCommand (.modeLoad c) fun s => s.takeModeLoad c)

/-- BURST_STOP (R12). -/
def execBurstStop (s : State) : Host.Outcome State Fault Refusal :=
  .next (s.busCommand .burstStop fun s => s.setTracker (s.tracker.endBurst .burstStop))

/-- NO_OPERATION (R3): a position with no command. -/
def execNoOperation (s : State) : Host.Outcome State Fault Refusal :=
  .next (s.busCommand .none fun s => s)

/-- SUSPEND (R1): clock-enable low while AWAKE at an edge whose command is not REFRESH; no position. A position that
has begun with a RESUME or with its read data has passed, and what the last position had to issue has been issued. -/
def execSuspend (s : State) : Host.Outcome State Fault Refusal :=
  .next (
    if s.takesBus then (s.passBegun (s.tracker.resumed || s.tracker.arrived)).finishPosition.setStore .suspended else s)

/-- RESUME (R1): the first edge with clock-enable high while SUSPENDED. That edge is the next position; its read data
and its command follow as steps of their own, and where none comes it passes with no command. -/
def execResume (s : State) : Host.Outcome State Fault Refusal :=
  .next (
    if s.inReset || s.tracker.store != .suspended then s
    else s.setTracker { s.tracker with store := .awake, resumed := true })

/-- A burst beat at the current position, or at a next one with no command where the current one has its beat. -/
def State.burstBeat (s : State) (data : Word) (m : Mask) : State :=
  (if s.tracker.beatDone then s.beginPosition else s).issueBeat data m

/-- The write data and mask lines of a position pass toward the store where the burst in flight is a write. -/
def State.driveIfWrite (s : State) (data : Word) (m : Mask) : State :=
  if s.inReset || s.tracker.write.isSome then s.driveStore data m else s

/-- BURST_BEAT_ISSUE (R11): happens only where a burst is in flight. -/
def execBurstBeatIssue (data : Word) (m : Mask) (s : State) : Host.Outcome State Fault Refusal :=
  .next (
    if s.inReset then s.driveStore data m
    else if s.takesBus && s.tracker.burst.isSome then (s.driveIfWrite data m).burstBeat data m
    else s)

/-- The burst in flight has exactly one beat left to issue (R11, R13). -/
def Tracker.oneLeft (t : Tracker) : Bool :=
  match t.write with
  | some w => w.lengthKnown && lastBeat w.length (w.issued + 1)
  | none =>
    match t.reading with
    | some e => lastBeat e.length (e.issued + 1)
    | none => false

/-- BURST_COMPLETE (R13): the issue of the last beat of a fixed-length burst; happens only where one is left. -/
def execBurstComplete (data : Word) (m : Mask) (s : State) : Host.Outcome State Fault Refusal :=
  .next (
    if s.inReset then s.driveStore data m
    else if s.takesBus && s.tracker.oneLeft then (s.driveIfWrite data m).burstBeat data m
    else s)

/-- A read beat is delivered only where no mask line is asserted and the controller drives no write beat (R16, R18). -/
def delivered (m : Mask) (ctrlDrives : Bool) : Bool := whole m && !ctrlDrives

/-- Where a beat's return empties the queue under a pending restart, the delivered beat and the restart fall
together and either may be taken first (R124, R136, R167; log 10). The records that the beat hands over wait, so they
are taken after the restart: DESIGN CHOICE, log 28. -/
def State.returnDelivered (s : State) (w : Option Nat) (data : Word) : State :=
  if s.report.restartPending && s.tracker.queue.isEmpty then
    { (if Config.restartBeforeBeat s.choices then s.settleRestart.readBeat w data
        else (s.readBeat w data).settleRestart) with choices := s.choices + 1 }
  else s.readBeat w data

/-- The return of the beat due at the next position, with the store's word and the lines (R16, R18, R20). An entry whose
last beat this is leaves the queue before the beat is answered, so a word that shows the queue's depth does not count it
(R16, R166): DESIGN CHOICE, log 27. -/
def State.takeReturn (s : State) (data : Word) (m : Mask) (ctrlDrives : Bool) : State :=
  match returning s.tracker.queue with
  | none => s
  | some e =>
    if !s.tracker.dueAt (s.tracker.position + 1) then s else
    let s' := (s.setTracker s.tracker.returned).noteArrival
    if delivered m ctrlDrives then s'.returnDelivered (e.address s.strapImage.map) data
    else (s'.deliver data).settleRestart

/-- In reset, and for a word that reaches no entry, the store's word is scaled by the fallback factor (R109, R110). -/
def State.deliverFallback (s : State) (data : Word) : State := s.deliver (scaleWord s.fallbackFactor data)

/-- READ_BEAT_RETURN (R16): the positions up to the oldest beat's due position pass with no command, then the beat
returns. -/
def execReadBeatReturn (data : Word) (m : Mask) (ctrlDrives : Bool) (s : State) : Host.Outcome State Fault Refusal :=
  .next (
    if s.inReset then s.deliverFallback data
    else if s.takesBus then s.untilDue.takeReturn data m ctrlDrives
    else s)

/-- Read data at the next position, where no beat is due at it (R18). -/
def State.takeUnplaced (s : State) (data : Word) (m : Mask) (ctrlDrives : Bool) : State :=
  if s.tracker.dueAt (s.tracker.position + 1) then s
  else if delivered m ctrlDrives then s.finishPosition.noteArrival.readBeat none data
  else s.finishPosition.noteArrival.deliver data

/-- UNPLACED_ARRIVAL (R18): happens only at a position where no beat is due; one position's data come once. -/
def execUnplacedArrival (data : Word) (m : Mask) (ctrlDrives : Bool) (s : State) : Host.Outcome State Fault Refusal :=
  .next (
    if s.inReset then s.deliverFallback data
    else if s.takesBus then (s.passBegun s.tracker.arrived).takeUnplaced data m ctrlDrives
    else s)

end Sys2Proof.Machine
end

