-- ==== Sys2Proof/Machine/Clock.lean ====
section
/-! DEFINITION. Machine/Clock.lean: what time does (Chapter 4): the 1 ms event, and the expiries and the tick that it
makes due. They are taken by their own commands, among the other events that fall at the same 1 ms event; what is left
of them is taken before the reference clock moves on (R66, R69; logs 12, 13). -/

namespace Sys2Proof.Machine

/-- Every expiry that is due is taken: channels, faces, tiles, in the order of their numbers (log 13). -/
def State.takeExpiries (s : State) : State :=
  let s := (List.finRange 4).foldl State.staleExpiry s
  let s := (List.finRange 8).foldl State.stallExpiry s
  (List.finRange 8).foldl (fun s f => (List.finRange 32).foldl (fun s i => s.silentExpiry f i) s) s

/-- What the last 1 ms event has made due is taken: the expiries, then the raised tick (log 12). -/
def State.settleTime (s : State) : State := s.takeExpiries.takeTick

/-- One cycle of the reference clock: the prescaler counts it, and at the divisor takes the 1 ms event (R64). The
part counts nothing in reset (R74). -/
def State.clockCycle (s : State) : State :=
  if s.inReset then s
  else
    let s := s.settleTime
    if s.time.prescaler + 1 < Config.divisor s.strapImage then
      { s with time := { s.time with prescaler := s.time.prescaler + 1 } }
    else s.ms1

/-- ONE_MS_EVENT (R64 to R69). -/
def execOneMsEvent (s : State) : Host.Outcome State Fault Refusal :=
  .next (if s.inReset then s else s.settleTime.ms1)

end Sys2Proof.Machine
end

