-- ==== Sys2Proof/Machine/Reset.lean ====
section
/-! DEFINITION. Machine/Reset.lean: the three commands of the two resets (R22, R23, R36, R62, R63, R74, R85, R106,
R110, R123, R136, R146, R156, R168). -/

namespace Sys2Proof.Machine

/-- POWER_ON_RESET (R63): every block at its reset values, no strap image until the part leaves reset (R23). -/
def execPowerOnReset (s : State) : Host.Outcome State Fault Refusal :=
  .next (State.held none State.reset.bus s.choices s.pending)

/-- RESET_LINE (R22): every block held at its reset values, the strap image keeping its last sample (R23). -/
def execResetLine (s : State) : Host.Outcome State Fault Refusal :=
  .next (State.held s.straps s.bus s.choices s.pending)

/-- RESET_RELEASE (R23, R36): the part leaves reset, samples the straps and starts every block from its reset
values; happens only in reset. -/
def execResetRelease (p : Straps) (s : State) : Host.Outcome State Fault Refusal :=
  .next (if s.inReset then { State.held (some p) s.bus s.choices s.pending with inReset := false } else s)

end Sys2Proof.Machine
end

