-- ==== Sys2Proof/Machine/Dispatch.lean ====
section
/-! DEFINITION. Machine/Dispatch.lean: one arm per command. -/

namespace Sys2Proof.Machine

/-- The effect of a command on everything but the queue of waiting commands. -/
def exec (i : Instr) (s : State) : Host.Outcome State Fault Refusal :=
  match i with
  | .powerOnReset => Sys2Proof.Machine.execPowerOnReset s
  | .resetLine => Sys2Proof.Machine.execResetLine s
  | .resetRelease straps => Sys2Proof.Machine.execResetRelease straps s
  | .suspend => Sys2Proof.Machine.execSuspend s
  | .resume => Sys2Proof.Machine.execResume s
  | .openBank bank row => Sys2Proof.Machine.execOpen bank row s
  | .read bank column autoclose => Sys2Proof.Machine.execRead bank column autoclose s
  | .write bank column autoclose data mask => Sys2Proof.Machine.execWrite bank column autoclose data mask s
  | .close bank => Sys2Proof.Machine.execClose bank s
  | .closeAll => Sys2Proof.Machine.execCloseAll s
  | .refresh => Sys2Proof.Machine.execRefresh s
  | .sleepEnter => Sys2Proof.Machine.execSleepEnter s
  | .sleepExit => Sys2Proof.Machine.execSleepExit s
  | .modeLoad codes => Sys2Proof.Machine.execModeLoad codes s
  | .burstStop => Sys2Proof.Machine.execBurstStop s
  | .noOperation => Sys2Proof.Machine.execNoOperation s
  | .burstBeatIssue data mask => Sys2Proof.Machine.execBurstBeatIssue data mask s
  | .burstComplete data mask => Sys2Proof.Machine.execBurstComplete data mask s
  | .readBeatReturn data mask ctrlDrives => Sys2Proof.Machine.execReadBeatReturn data mask ctrlDrives s
  | .unplacedArrival data mask ctrlDrives => Sys2Proof.Machine.execUnplacedArrival data mask ctrlDrives s
  | .stagingWrite offset data mask => Sys2Proof.Machine.execStagingWrite offset data mask s
  | .timeWordWrite data mask => Sys2Proof.Machine.execTimeWordWrite data mask s
  | .modeDeclaration data mask => Sys2Proof.Machine.execModeDeclaration data mask s
  | .commitRequest data mask => Sys2Proof.Machine.execCommitRequest data mask s
  | .validationFailure => Sys2Proof.Machine.execValidationFailure s
  | .switch => Sys2Proof.Machine.execSwitch s
  | .restartRequest data mask => Sys2Proof.Machine.execRestartRequest data mask s
  | .monitorRestart => Sys2Proof.Machine.execMonitorRestart s
  | .run face catchUp mask => Sys2Proof.Machine.execRun face catchUp mask s
  | .hold face catchUp mask => Sys2Proof.Machine.execHold face catchUp mask s
  | .blank face catchUp mask => Sys2Proof.Machine.execBlank face catchUp mask s
  | .dark face catchUp mask => Sys2Proof.Machine.execDark face catchUp mask s
  | .release face catchUp mask => Sys2Proof.Machine.execRelease face catchUp mask s
  | .oneMsEvent => Sys2Proof.Machine.execOneMsEvent s
  | .dimmingTick => Sys2Proof.Machine.execDimmingTick s
  | .sensorFrameArrival n0 n1 n2 n3 n4 n5 => Sys2Proof.Machine.execSensorFrameArrival n0 n1 n2 n3 n4 n5 s
  | .sensorIncompleteFrame => Sys2Proof.Machine.execSensorIncompleteFrame s
  | .staleTimerExpiry channel => Sys2Proof.Machine.execStaleTimerExpiry channel s
  | .stallTimerExpiry face => Sys2Proof.Machine.execStallTimerExpiry face s
  | .tileFrameArrival b0 b1 b2 b3 b4 => Sys2Proof.Machine.execTileFrameArrival b0 b1 b2 b3 b4 s
  | .tileIncompleteFrame => Sys2Proof.Machine.execTileIncompleteFrame s
  | .silentTimerExpiry face tile => Sys2Proof.Machine.execSilentTimerExpiry face tile s
  | .record => Sys2Proof.Machine.execRecord s
  | .choice => Sys2Proof.Machine.execChoice s
  | .writeEnd => Sys2Proof.Machine.execWriteEnd s
  | .acknowledgment slot mask => Sys2Proof.Machine.execAcknowledgment slot mask s
  | .slotInactive slot mask => Sys2Proof.Machine.execSlotInactive slot mask s
  | .filterWrite slot data mask => Sys2Proof.Machine.execFilterWrite slot data mask s
  | .headerRead slot => Sys2Proof.Machine.execHeaderRead slot s
  | .stampWordRead => Sys2Proof.Machine.execStampWordRead s
  | .reservedWrite offset data mask => Sys2Proof.Machine.execReservedWrite offset data mask s

end Sys2Proof.Machine
end

