-- ==== Sys2Proof/Safety.lean ====
section
/-! DEFINITION. Safety.lean: what the spec says always holds of the part, as predicates of State, each a relation
between fields that every step keeps; the values of reset; and the names the statements use for a state at the
position of a command. -/

namespace Sys2Proof.Machine

/-! ### Handing over (R147, R167) -/

/-- A notice is a record. -/
def Notice.isRecord : Notice → Bool
  | .record _ => true
  | _ => false

/-- What waits at the Constraint Block waits behind a record (R147). -/
abbrev State.InboxOk (s : State) : Prop := ∀ n ∈ s.inbox.head?, n.isRecord = true

/-- A restart is pending only while the read-return queue is non-empty (R167). -/
abbrev State.RestartOk (s : State) : Prop := s.report.restartPending = true → s.tracker.queue ≠ []

/-- The state as a bus command finds it at its own position: the command re-driven, the last position finished and
the beat due at this one returned (R3). -/
def State.atPosition (s : State) (c : BusCommand) : State := (s.driveCommand c).beginPosition

/-! ### The Bus Tracker (R16, R17) -/

/-- An entry of the read-return queue: no more beats returned than issued, and not yet to leave (R16). -/
abbrev ReadEntry.Ok (e : ReadEntry) : Prop := e.returned ≤ e.issued ∧ e.stays = true

/-- Room for the beats that are due: `slack` is 1 where the current position has issued its beat (R17). -/
abbrev Tracker.DueOk (t : Tracker) (slack : Nat) : Prop :=
  t.due.length ≤ 2 + slack ∧
    ∀ j : Fin 3, ∀ d ∈ t.due[j.val]?, d + t.due.length ≤ t.position + 3 + slack + j.val

/-- The read-return queue as R16 and R17 describe it: at most three entries, only the last of which still issues,
none while a write burst is in flight; the beats due are the beats issued and not returned. -/
abbrev Tracker.Ok (t : Tracker) : Prop :=
  (t.mode.latency = 2 ∨ t.mode.latency = 3) ∧
  (∀ e ∈ t.queue, e.Ok) ∧
  (t.queue.map fun e => e.issued - e.returned).sum = t.due.length ∧
  (∀ e ∈ t.queue.dropLast, e.issuing = false) ∧
  (t.write.isSome = true → ∀ e ∈ t.queue, e.issuing = false) ∧
  (t.beatDone = true → ∀ e ∈ t.queue, e.returned < e.issued) ∧
  (t.beatDone = true → (t.queue.any fun e => e.issuing) = true → ∀ d ∈ t.due.getLast?, t.position + 2 ≤ d) ∧
  t.DueOk t.beatDone.toNat ∧
  t.queue.length ≤ 3

/-! ### The Policy Block and the region table (R27, R59) -/

/-- The region of a face is its active record's geometry, configured exactly when the record is enabled (R27). -/
abbrev State.RegionOk (s : State) (f : Fin 8) : Prop :=
  let r := s.policy.active.face f
  s.regions[f].configured = r.enabled ∧
    (r.enabled = true →
      s.regions[f] =
        { configured := true, baseA := r.baseA, baseB := r.baseB, width := r.width, height := r.height, stride := r.stride })

/-- The active tables pass commit validation (R59) and the region table is their section F (R27). -/
abbrev State.PolicyOk (s : State) : Prop :=
  (∀ p ∈ s.straps, s.policy.active.validate (Config.serviceBase p) = none) ∧
  (s.straps = none → s.inReset = true ∧ s.policy = .reset) ∧
  ∀ f : Fin 8, s.RegionOk f

/-! ### The Time Base (4.1 to 4.3) -/

/-- The ranges of time-of-day and of the tick phase (R67, R69). -/
abbrev State.TimeOk (s : State) : Prop :=
  s.time.tod.minute < 10080 ∧ s.time.tod.ms < 60000 ∧ s.time.phase < 100 ∧
    (s.time.tod.set = false → s.time.tod.minute = 0 ∧ s.time.tod.ms = 0)

/-! ### The Light Channels (5.2) -/

/-- A timer is running. -/
def Timer.isRunning : Timer → Bool
  | .running _ => true
  | _ => false

/-- The situations of a channel, the window's fill, its 16-bit codes and the saturating counts (5.2, R81). -/
abbrev Channel.Ok (c : Channel) : Prop :=
  (c.state = .fresh → c.heard = true ∧ 1 ≤ c.window.length ∧ c.window.length ≤ 9 ∧ c.timer.isRunning = true) ∧
  (c.state = .stale → c.window = [] ∧ c.timer = .stopped ∧ c.satRun = false) ∧
  (∀ v ∈ c.window, v ≤ max16) ∧ (c.heard = c.lastGood.isSome) ∧ (c.badActive = decide (3 ≤ c.consecBad)) ∧
  c.consecBad ≤ c.bad ∧ c.samples ≤ max16 ∧ c.bad ≤ max16

/-- Every channel is in one of its situations. -/
abbrev State.LightOk (s : State) : Prop := s.light.shortFrames ≤ max16 ∧ ∀ ch : Fin 4, s.light.channels[ch].Ok

/-! ### The Tile Link (9.2) -/

/-- The three situations of a tile entry (9.2, R139). -/
abbrev TileEntry.Ok (e : TileEntry) : Prop :=
  (e.heard = false → e = .reset) ∧ (e.silent = true → e.timer = .stopped) ∧
    (e.heard = true → e.silent = false → e.timer.isRunning = true)

/-- Every tile entry is in one of its situations, and the entries of an unconfigured face are cleared (R144). -/
abbrev State.TilesOk (s : State) : Prop :=
  s.tiles.errors ≤ max16 ∧ s.tiles.discarded ≤ max16 ∧
    ∀ f : Fin 8, ∀ i : Fin 32, s.tiles.entries[f][i].Ok ∧ (s.configured f = false → s.tiles.entries[f][i] = .reset)

/-! ### One face (6.1, 7.1, 8.1, 10.3) -/

/-- No two causes of a set have one identity (10.3). -/
abbrev distinctCauses (cs : List Cause) : Prop := (cs.map fun c => (c.cls, c.src)).Nodup

/-- The class codes whose causes a face can hold: the defined classes but the two of the bus (R52, R56). -/
def faceClasses : List Nat := [1, 2, 3, 4, 8, 9, 10, 16, 17, 18, 19, 20]

/-- A cause set holds causes of the face classes, and no two of one identity (10.3, R56). -/
abbrev causesOk (cs : List Cause) : Prop := distinctCauses cs ∧ ∀ c ∈ cs, c.cls ∈ faceClasses

/-- A face: its held level and published values in range (6.1); its factors and APLs in range (R114); its frame OPEN
exactly while it is SCANNING, and then with its starting beat counted; its stall timer only while SCANNING, and then no
more lines seen than lie up to its last line (R126, R127); its cause sets of face classes without repeats. -/
abbrev FaceState.Ok (x : FaceState) : Prop :=
  x.level.held ≤ 1048320 ∧ x.level.target ≤ 4095 ∧ x.level.curve ≤ 4095 ∧ x.level.cap ≤ 4095 ∧
  (∀ l ∈ x.level.light, l ≤ max16) ∧
  x.pixel.factor ≤ 4096 ∧ x.pixel.aplFactor ≤ 4096 ∧ x.pixel.aplIn ≤ 1023 ∧ x.pixel.aplOut ≤ 1023 ∧
  (x.pixel.frameOpen = true ↔ x.scan.state = .scanning) ∧
  (x.pixel.frameOpen = true → 1 ≤ x.pixel.count) ∧
  x.pixel.count ≤ maxPixels ∧ x.pixel.sumIn ≤ x.pixel.count * 3069 ∧ x.pixel.sumOut ≤ x.pixel.count * 3069 ∧
  (x.scan.timer ≠ .stopped → x.scan.state = .scanning) ∧
  (x.scan.state = .scanning → x.scan.linesSeen ≤ x.scan.lastLine + 1) ∧
  x.scan.liveWrites ≤ max16 ∧
  causesOk x.causes.blank ∧ causesOk x.causes.derate ∧ x.causes.clean ≤ 255

/-- Every face is as 6.1, 7.1, 8.1 and 10.3 describe it; one that is SCANNING has its last line within its height and at
most its height of lines seen (R126, R127); one that is not monitored is NO SIGNAL (R125, R133, R134); one that is not
configured holds no cause (R156). -/
abbrev State.FacesOk (s : State) : Prop :=
  ∀ f : Fin 8, s.faces[f].Ok ∧
    (s.faces[f].scan.state = .scanning →
      s.faces[f].scan.lastLine < s.regions[f].height ∧ s.faces[f].scan.linesSeen ≤ s.regions[f].height) ∧
    (s.monitored f = false → s.faces[f].scan.state = .noSignal) ∧
    (s.configured f = false → s.faces[f].causes = .reset)

/-! ### The Report Block (R157, R158, R163) -/

/-- A slot holds a record exactly when its code is FULL or OVERRUN, its overwrite count is non-zero only when its code
is OVERRUN, and it has a former code exactly while BUSY (R158, 11.2). -/
abbrev Slot.Ok (x : Slot) : Prop :=
  (x.record.isSome = x.code.holds) ∧ (x.overwrites ≠ 0 → x.code = .overrun) ∧ x.overwrites ≤ 255 ∧
  (x.former.isSome = (x.code == .busy)) ∧
  (∀ g ∈ x.former, (g.code = .empty ∨ g.code = .full ∨ g.code = .overrun) ∧ g.overwrites ≤ 255)

/-- At most 16 records are queued, and none while the writer is IDLE; every slot is as R158 says, the writer's slot is the
BUSY one, and a locked slot holds a record (R157, R158, R159, R163). -/
abbrev Report.Ok (p : Report) : Prop :=
  p.queue.length ≤ 16 ∧ (p.writer = none → p.queue = []) ∧ p.drop ≤ max16 ∧ (∀ k : Fin 32, p.slots[k].Ok) ∧
  (∀ k : Fin 32, p.slots[k].code = .busy ↔ p.writer.map (·.2) = some k) ∧
  (∀ k ∈ p.lock, p.slots[k].code.holds = true)

/-! ### Reset -/

/-- While in reset the part stands at its reset values (R22, R36, R62, R74, R85, R106, R123, R136, R146, R156, R168). -/
abbrev State.HeldOk (s : State) : Prop := s.inReset = true → s = State.held s.straps s.bus s.choices s.pending

/-- A face at the values that R106, R123, R136 and R156 give. -/
abbrev FaceState.AtReset (x : FaceState) : Prop :=
  x.level.held = 0 ∧ x.level.output = 0 ∧ x.level.catchUp = false ∧ x.level.light = none ∧ x.level.curve = 0 ∧
  x.level.cap = 0 ∧ x.level.target = 0 ∧
  x.pixel.factor = 0 ∧ x.pixel.aplFactor = 4096 ∧ x.pixel.frameOpen = false ∧ x.pixel.count = 0 ∧ x.pixel.sumIn = 0 ∧
  x.pixel.sumOut = 0 ∧ x.pixel.aplIn = 0 ∧ x.pixel.aplOut = 0 ∧ x.pixel.frames = 0#32 ∧
  x.scan.state = .noSignal ∧ x.scan.displayed = .A ∧ x.scan.lastLine = 0 ∧ x.scan.linesSeen = 0 ∧
  x.scan.lastFlip = 0#32 ∧ x.scan.timer = .stopped ∧ x.scan.liveWrites = 0 ∧
  x.causes.blank = [] ∧ x.causes.derate = [] ∧ x.causes.clean = 0

/-- A channel at the values of R85. -/
abbrev Channel.AtReset (c : Channel) : Prop :=
  c.state = .stale ∧ c.heard = false ∧ c.window = [] ∧ c.filtered = none ∧ c.timer = .stopped ∧ c.lastGood = none ∧
  c.consecBad = 0 ∧ c.badActive = false ∧ c.satRun = false ∧ c.samples = 0 ∧ c.bad = 0

/-- A cleared tile entry (R139). -/
abbrev TileEntry.Cleared (e : TileEntry) : Prop :=
  e.heard = false ∧ e.status = 0#4 ∧ e.openCount = 0#8 ∧ e.temp = 0#8 ∧ e.silent = false ∧ e.timer = .stopped

/-- The Bus Tracker and the Address Classifier at the values of R22 and R36. -/
abbrev State.BusAtReset (s : State) : Prop :=
  (∀ b : Fin 4, s.tracker.banks[b] = .unknown) ∧
  s.tracker.mode = { length := .one, order := .sequential, latency := 2, writeSingle := false, source := .unknown } ∧
  s.tracking = false ∧ s.tracker.queue = [] ∧ s.tracker.due = [] ∧ s.tracker.write = none ∧
  s.tracker.store = .awake ∧ (∀ f : Fin 8, s.configured f = false) ∧ s.isConfigured = false

/-- The Policy Block at the values of R62. -/
abbrev Policy.AtReset (p : Policy) : Prop :=
  p.inFlight = false ∧ (∀ x ∈ [Sec.F, .C, .S, .Z, .A, .G], p.locked x = false) ∧ p.commitWord = { mask := 0#6, seq := 0#8 } ∧
  p.status = { seq := 0#8, state := .idle, failure := none, lost := 0 } ∧ p.refused = 0 ∧
  p.staging = defaultTables ∧ p.active = defaultTables

/-- The Time Base at the values of R74. -/
abbrev TimeBase.AtReset (t : TimeBase) : Prop :=
  t.prescaler = 0 ∧ t.stamp = 0#32 ∧ t.tod = { set := false, minute := 0, ms := 0 } ∧ t.phase = 0 ∧
  t.tickRaised = false

/-- The Report Block at the values of R168. -/
abbrev Report.AtReset (p : Report) : Prop :=
  (∀ k : Fin 32, p.slots[k].code = .empty ∧ p.slots[k].filterKey = 0#16 ∧ p.slots[k].filterMask = 0#16 ∧
    p.slots[k].record = none ∧ p.slots[k].overwrites = 0) ∧
  p.queue = [] ∧ p.writer = none ∧ p.lock = none ∧ p.drop = 0 ∧ p.restartPending = false

/-- Every block stands at its reset values. -/
abbrev State.AtReset (s : State) : Prop :=
  s.BusAtReset ∧ s.policy.AtReset ∧ s.time.AtReset ∧
  ((∀ ch : Fin 4, s.light.channels[ch].AtReset) ∧ s.light.shortFrames = 0) ∧
  (∀ f : Fin 8, s.faces[f].AtReset) ∧
  ((∀ f : Fin 8, ∀ i : Fin 32, s.tiles.entries[f][i].Cleared) ∧ s.tiles.errors = 0 ∧ s.tiles.discarded = 0) ∧
  s.inbox = [] ∧ s.report.AtReset

/-! ### What time has made due (R66, R69) -/

/-- No timer's expiry is due and no tick is raised: what the last 1 ms event made due has been taken. -/
abbrev State.NothingDue (s : State) : Prop :=
  (∀ ch : Fin 4, s.light.channels[ch].timer ≠ .running 0) ∧
  (∀ f : Fin 8, s.configured f = true → s.faces[f].mode ≠ .dark → s.faces[f].scan.state = .scanning →
    s.faces[f].scan.timer ≠ .running 0) ∧
  (∀ f : Fin 8, ∀ i : Fin 32, s.tiles.entries[f][i].timer ≠ .running 0) ∧
  s.time.tickRaised = false

/-! ### Names of commands -/

/-- The state after a command. -/
def State.after (s : State) (c : Instr) : State :=
  match exec c s with
  | .next t => t
  | .fault _ => s
  | .refused _ => s

/-- The state after commands, first to last. -/
def State.afterAll (s : State) (cs : List Instr) : State := cs.foldl State.after s

/-- The commands of time: the expiry of every channel, face and tile, then the tick. -/
def timeCommands : List Instr :=
  (List.finRange 4).map .staleTimerExpiry ++ (List.finRange 8).map .stallTimerExpiry
    ++ (List.finRange 8).flatMap (fun f => (List.finRange 32).map (.silentTimerExpiry f)) ++ [.dimmingTick]

/-- The three commands of the two resets. -/
def isReset : Instr → Bool
  | .powerOnReset => true
  | .resetLine => true
  | .resetRelease _ => true
  | _ => false

end Sys2Proof.Machine
end

