-- ==== Sys2Proof/WellFormed.lean ====
section
/-! DEFINITION. WellFormed.lean: the checks on a command's operands that their types do not make. -/

namespace Sys2Proof

/-- A service offset at which no word of the part is written: the reserved and undefined words of the policy page,
and every report-page word but the slots' header and filter words (R37, R39, R162, R169). -/
def reservedOffset (off : Nat) : Bool :=
  if off < 12 then false
  else if off < 2048 then (Machine.stagedAddr off).isNone
  else !(3080 ≤ off && off < 3336 && (off - 3080) % 8 < 2)

/-- The command's operands name what its row names: a staging write lies at a staged offset 16..511 (R37), a reserved
write at a reserved one (R169). -/
def Instr.wellFormed : Instr → Bool
  | .stagingWrite off _ _ => 16 ≤ off.val && off.val < 512
  | .reservedWrite off _ _ => reservedOffset off.val
  | _ => true

end Sys2Proof
end

