-- ==== Sys2Proof/Certificates/Slice0/Obligations.lean ====
section
/-! DEFINITION. Certificates/Slice0/Obligations.lean: the statements for the provers. Where a statement names a log
entry, that part of it is the model's choice and no rule's. -/

open Sys2Proof Sys2Proof.Machine

/-! ### The machine -/

/-- The model's own (log 2): a step runs the command at the front of the queue on the state with the queue's rest. -/
def Obligations.StepRunsTheFrontCommand : Prop :=
  ∀ (s : State) (c : Instr) (rest : List Instr),
    s.pending = c :: rest → step s = exec c { s with pending := rest }

/-- R64, with the model's choice (log 3) that a step on an empty queue is one cycle of the reference clock. What the last
1 ms event has made due and no command has taken is taken before the cycle, as by the commands of time (logs 12, 13). -/
def Obligations.IdleStepIsOneReferenceClockCycle : Prop :=
  ∀ (s : State),
    s.pending = [] →
      (s.inReset = true → step s = .next s) ∧
      (s.inReset = false → s.NothingDue → s.time.prescaler + 1 < (if s.strapImage.clk then 50000 else 25000) →
        step s = .next { s with time := { s.time with prescaler := s.time.prescaler + 1 } }) ∧
      (s.inReset = false → (if s.strapImage.clk then 50000 else 25000) ≤ s.time.prescaler + 1 →
        step s = exec .oneMsEvent s) ∧
      (s.inReset = false → step s = step (s.afterAll timeCommands) ∧ (s.afterAll timeCommands).pending = [] ∧
        (s.afterAll timeCommands).time.prescaler = s.time.prescaler)

/-- No command ends in a fault or a refusal, and none touches the queue of waiting commands (log 2). -/
def Obligations.CommandsCompleteAndKeepTheQueue : Prop :=
  ∀ (s : State) (c : Instr),
    ∃ t, exec c s = .next t ∧ t.pending = s.pending

/-! ### Reset -/

/-- POWER_ON_RESET, RESET_LINE and RESET_RELEASE leave every block at its reset values; the strap image is none from
power-on, kept by the reset line and sampled at the release; FAULT is asserted. Which command ends a reset, and that a
RESET_RELEASE out of reset does nothing, is the model's reading (log 1); that no tick is raised and that nothing is handed
over at reset are values of the model's own fields (logs 12, 22). -/
def Obligations.ResetCommandsGiveTheResetValues : Prop :=
  ∀ (s : State) (p : Straps),
    (∃ t, exec .powerOnReset s = .next t ∧ t.AtReset ∧ t.inReset = true ∧ t.straps = none ∧ t.faultLine = true) ∧
    (∃ t, exec .resetLine s = .next t ∧ t.AtReset ∧ t.inReset = true ∧ t.straps = s.straps ∧ t.faultLine = true) ∧
    (s.inReset = true →
      ∃ t, exec (.resetRelease p) s = .next t ∧ t.AtReset ∧ t.inReset = false ∧ t.straps = some p ∧
        t.faultLine = true) ∧
    (s.inReset = false → exec (.resetRelease p) s = .next s)

/-- The default tables of R63, word by word of their fields, and that they pass every check of R56 wherever the
straps put the service area; and that both resets set both images to them. -/
def Obligations.DefaultTablesAreThoseOfTheRule : Prop :=
  ∀ (p : Straps),
    (∀ f : Fin 8, ∀ w : Fin 9, defaultTables.faces[f][w] = 0#32) ∧
    (defaultTables.curveCount 0 = 2 ∧ defaultTables.curvePoints 0 = [(0, 200), (25000, 4095)] ∧
      (∀ w : Fin 17, 3 ≤ w.val → defaultTables.curves[(0 : Fin 4)][w] = 0#32) ∧
      ∀ k : Fin 4, k ≠ 0 → ∀ w : Fin 17, defaultTables.curves[k][w] = 0#32) ∧
    (∀ e : Fin 32, ∀ w : Fin 2, defaultTables.schedule[e][w] = 0#32) ∧
    (∀ f : Fin 8, ∀ z : Fin 16, defaultTables.trim f z = 256) ∧
    (∀ c : Fin 32, defaultTables.latch c = false ∧
      defaultTables.action c =
        (if c.val = 18 then Action.derate
         else if c.val ∈ [1, 2, 3, 4, 8, 9, 10, 16, 17, 19, 20, 24, 25] then Action.report else Action.none)) ∧
    (defaultTables.unsetCap = 1024 ∧ defaultTables.stallWindow = 200 ∧ defaultTables.minDwell = 6000 ∧
      defaultTables.cleanFrames = 64 ∧ defaultTables.staleTimeout = 2000 ∧ defaultTables.silentTimeout = 10000 ∧
      defaultTables.aplTolerance = 8) ∧
    defaultTables.validate (if p.svc = 0 then 0 else if p.svc = 1 then 4194304 else if p.svc = 2 then 8388608 else 16773120)
      = none ∧
    ∀ (s : State) (c : Instr), c = .powerOnReset ∨ c = .resetLine →
      ∃ t, exec c s = .next t ∧ t.policy.staging = defaultTables ∧ t.policy.active = defaultTables ∧
        t.isConfigured = false ∧ t.faultLine = true

/-- While in reset nothing but the bus lines changes, whatever command comes (the three reset commands apart), in every
block (R22, R36, R62, R74, R75, R106, R137, R156, R168), and a word the store drives leaves scaled by the fallback factor,
or with its components 0 before the first sample (R110). The factor, in reset and out of it, is the level of the FB code:
0, 512, 1,024 or 2,048 (R26). -/
def Obligations.InResetOnlyTheBusLinesPass : Prop :=
  ∀ (s : State) (c : Instr),
    let level (p : Straps) : Nat := if p.fb = 0 then 0 else if p.fb = 1 then 512 else if p.fb = 2 then 1024 else 2048
    (∀ p ∈ s.straps, Config.fallbackLevel p = level p) ∧
    s.fallbackFactor = (s.straps.map level).getD 0 ∧
    (s.inReset = true →
      (isReset c = false → ∃ t, exec c s = .next t ∧ t = { s with bus := t.bus }) ∧
      ∀ (data : Word) (m : Mask) (cd : Bool), ∃ t, exec (.readBeatReturn data m cd) s = .next t ∧
        exec (.unplacedArrival data m cd) s = .next t ∧
        t.bus.toController = some (scaleWord ((s.straps.map level).getD 0) data))

/-- The state after power-on meets every invariant. That no tick is raised and that nothing waits to be taken are values of the
model's own fields (logs 7, 12, 22), and that no write waits on an IDLE writer is R159. -/
def Obligations.ResetStateMeetsTheInvariants : Prop :=
  State.reset.InboxOk ∧ State.reset.RestartOk ∧ State.reset.tracker.Ok ∧ State.reset.PolicyOk ∧ State.reset.TimeOk ∧
    State.reset.LightOk ∧ State.reset.TilesOk ∧ State.reset.FacesOk ∧ State.reset.report.Ok ∧ State.reset.HeldOk ∧
    State.reset.AtReset

/-! ### The Bus Tracker -/

/-- OPEN (R4): the entry becomes OPEN with the new row, with an anomaly of kind 2 where it was OPEN, and nothing else
changes; a burst in flight runs on. -/
def Obligations.OpenCommand : Prop :=
  ∀ (s : State) (b : Fin 4) (r : Row),
    s.takesBus = true → s.InboxOk → s.RestartOk →
      exec (.openBank b r) s =
        let p := s.atPosition (.openBank b r)
        .next { p with
          tracker := { p.tracker with banks := p.tracker.banks.set b (.opened r) }
          inbox := p.inbox ++
            if p.tracker.banks[b].isOpen then [.record (p.mkRecord .bus 0 25 .occurrence 2)] else [] }

/-- CLOSE and CLOSE_ALL (R5): the bank, or every bank, becomes IDLE from any state without a record; the burst in flight
ends where it is on the bank, or on any. REFRESH (R6): no change with no bank OPEN; else kind 3, every bank UNKNOWN and the
burst in flight ended. -/
def Obligations.CloseAndRefreshCommands : Prop :=
  ∀ (s : State) (b : Fin 4),
    s.takesBus = true →
      (exec (.close b) s =
        let p := s.atPosition (.close b)
        let t := if p.tracker.burst.map (·.1) = some b then p.tracker.stopBurst else p.tracker
        .next (State.settleRestart { p with tracker := { t with banks := p.tracker.banks.set b .idle } })) ∧
      (exec .closeAll s =
        let p := s.atPosition .closeAll
        let t := if p.tracker.burst.isSome then p.tracker.stopBurst else p.tracker
        .next (State.settleRestart { p with tracker := { t with banks := tabulate fun _ => .idle } })) ∧
      (s.InboxOk → s.RestartOk →
        exec .refresh s =
          let p := s.atPosition .refresh
          let t := if p.tracker.burst.isSome then p.tracker.stopBurst else p.tracker
          .next (
            if p.tracker.banks.toList.any Bank.isOpen then
              State.settleRestart { p with
                tracker := { t with banks := tabulate fun _ => .unknown }
                inbox := p.inbox ++ [.record (p.mkRecord .bus 0 25 .occurrence 3)] }
            else p))

/-- MODE_LOAD (R7, R8, R10): with a bank OPEN kind 4 and every bank UNKNOWN; the burst in flight ends. Valid codes make the
image LOADED with the four codes as 1.4 gives them, with a TRACK LOST clear out of LOST; invalid ones make the source UNKNOWN and drop the
queue and the beats due, with kind 7, then a TRACK LOST onset out of TRACKING. That a pending restart which the emptied
queue lets take effect comes before these records are taken is the model's choice (log 28). -/
def Obligations.ModeLoadCommand : Prop :=
  ∀ (s : State) (c : ModeCodes),
    s.takesBus = true → s.InboxOk →
      let p := s.atPosition (.modeLoad c)
      let t := if p.tracker.burst.isSome then p.tracker.stopBurst else p.tracker
      let opened := p.tracker.banks.toList.any Bank.isOpen
      let banks := if opened then tabulate fun _ => .unknown else p.tracker.banks
      let kind4 : List Notice := if opened then [.record (p.mkRecord .bus 0 25 .occurrence 4)] else []
      (codesValid c = true ↔
        c.length.toNat ∈ [0, 1, 2, 3, 7] ∧ c.latency.toNat ∈ [2, 3] ∧ ¬ (c.length.toNat = 7 ∧ c.interleaved = true)) ∧
      (∀ x ∈ [(0, BurstLength.one), (1, .two), (2, .four), (3, .eight), (7, .fullRow)],
        c.length.toNat = x.1 → codesValid c = true → exec (.modeLoad c) s =
          .next (State.settleRestart { p with
            tracker := { t with
              mode := {
                length := x.2, order := if c.interleaved then .interleaved else .sequential, latency := c.latency.toNat
                writeSingle := c.writeSingle, source := .loaded }
              banks := banks }
            inbox := p.inbox ++ kind4
              ++ if p.tracker.mode.source = .unknown then [.record (p.mkRecord .bus 0 24 .clear 0)] else [] })) ∧
      (codesValid c = false →
        exec (.modeLoad c) s =
          .next (State.settleRestart { p with
            tracker := { p.tracker with
              mode := { p.tracker.mode with source := .unknown }
              queue := [], due := [], write := none, banks := banks }
            inbox := p.inbox ++ kind4 ++ [.record (p.mkRecord .bus 0 25 .occurrence 7)]
              ++ if p.tracker.mode.source = .unknown then [] else [.record (p.mkRecord .bus 0 24 .onset 0)] }))

/-- SLEEP_ENTER and SLEEP_EXIT (R2, R131): the store falls ASLEEP with its burst, queue and due beats gone, kind 5 and
every bank IDLE with a bank OPEN, and the stall timers of SCANNING faces halt; at the exit they start at full length. The
edge of a RESUME that no command has followed is a position before the one of SLEEP_ENTER (R1; log 4). That a pending
restart which the emptied queue lets take effect comes before the record of kind 5 is taken is the model's choice (log 28). -/
def Obligations.SleepCommands : Prop :=
  ∀ (s : State),
    (s.takesBus = true → s.InboxOk →
      exec .sleepEnter s =
        let p := (if s.tracker.resumed then s.beginPosition else s).atPosition .sleepEnter
        let opened := p.tracker.banks.toList.any Bank.isOpen
        .next (State.settleRestart { p with
          tracker := { p.tracker with
            queue := [], due := [], write := none, store := .asleep, beatDone := true
            banks := if opened then tabulate fun _ => .idle else p.tracker.banks }
          inbox := p.inbox ++ if opened then [.record (p.mkRecord .bus 0 25 .occurrence 5)] else []
          faces := tabulate fun f =>
            if p.monitored f && p.faces[f].scan.state == .scanning then
              { p.faces[f] with scan := { p.faces[f].scan with timer := .halted } }
            else p.faces[f] })) ∧
    (s.inReset = false → s.tracker.store = .asleep →
      exec .sleepExit s =
        let p := State.atPosition { s with tracker := { s.tracker with store := .awake } } .sleepExit
        .next { p with
          faces := tabulate fun f =>
            if p.monitored f && p.faces[f].scan.state == .scanning then
              { p.faces[f] with scan := { p.faces[f].scan with timer := .running p.policy.active.stallWindow } }
            else p.faces[f] })

/-- SUSPEND and RESUME move the store state (R1): the edge of a RESUME is the next position, whose command follows as a step
of its own or which passes with none; a SUSPEND first lets a position pass that has begun with a RESUME or with its read
data, and finishes the last one with a masked beat (log 4). NO_OPERATION only passes a position (R3). BURST_STOP ends the
burst in flight and closes an autoclose burst's bank (R12, R13). -/
def Obligations.SuspendResumeStopAndNoOperation : Prop :=
  ∀ (s : State),
    (s.takesBus = true →
      exec .suspend s =
        let p := (if s.tracker.resumed || s.tracker.arrived then s.beginPosition else s).finishPosition
        .next { p with tracker := { p.tracker with store := .suspended } }) ∧
    (s.inReset = false → s.tracker.store = .suspended →
      exec .resume s = .next { s with tracker := { s.tracker with store := .awake, resumed := true } }) ∧
    (s.takesBus = true → s.RestartOk → exec .noOperation s = .next (s.atPosition .none)) ∧
    (s.takesBus = true →
      exec .burstStop s =
        let p := s.atPosition .burstStop
        .next (State.settleRestart { p with
          tracker :=
            match p.tracker.burst with
            | none => p.tracker
            | some (b, auto) =>
              { p.tracker.stopBurst with
                banks := if auto then p.tracker.banks.set b .idle else p.tracker.banks } }))

/-- An ended burst keeps the beats it has issued (R12): the read entry is truncated and waits for its beats, a write
burst is gone, no burst is left in flight, and no beat due is lost. -/
def Obligations.EndedBurstKeepsItsIssuedBeats : Prop :=
  ∀ (t : Tracker),
    t.Ok →
      t.stopBurst.burst = none ∧ t.stopBurst.Ok ∧ t.stopBurst.due = t.due ∧ t.stopBurst.banks = t.banks ∧
      t.stopBurst.mode = t.mode ∧ t.stopBurst.position = t.position ∧
      (∀ e ∈ t.queue, e.issuing = false → e ∈ t.stopBurst.queue) ∧
      (∀ e ∈ t.queue, e.issuing = true → e.returned < e.issued →
        { e with issuing := false, truncated := true } ∈ t.stopBurst.queue)

/-- READ (R12 to R15): kinds 8 and 1, the end of the burst in flight, and while TRACKING on a bank that is not IDLE a
new entry with its first beat issued, due one read latency later. That a READ which makes no entry leaves the bank table
as it was, its autoclose notwithstanding, is the model's reading (log 15). -/
def Obligations.ReadCommand : Prop :=
  ∀ (s : State) (b : Fin 4) (c : Column) (auto : Bool),
    s.takesBus = true → s.InboxOk →
      exec (.read b c auto) s =
        let p := s.atPosition (.read b c auto)
        let t : Tracker :=
          match p.tracker.burst with
          | none => p.tracker
          | some (b', auto') =>
            { p.tracker.stopBurst with
              banks := if auto' && b' != b then p.tracker.banks.set b' .idle else p.tracker.banks }
        let q : State := { p with
          inbox := p.inbox
            ++ (if p.tracker.burst = some (b, true) then [.record (p.mkRecord .bus 0 25 .occurrence 8)] else [])
            ++ if t.banks[b] = .idle then [.record (p.mkRecord .bus 0 25 .occurrence 1)] else [] }
        let single := decide (t.mode.length = .one)
        .next (State.settleRestart { q with
          tracker :=
            if t.mode.source = .unknown ∨ t.banks[b] = .idle then t
            else
              { t with
                queue := t.queue ++ [{
                  bank := b, row := t.banks[b].row, start := c, length := t.mode.length, order := t.mode.order
                  issued := 1, returned := 0, autoclose := auto, truncated := false, issuing := !single }]
                due := t.due ++ [t.position + t.mode.latency]
                banks := if single && auto then t.banks.set b .idle else t.banks
                beatDone := true } })

/-- WRITE (R12 to R14, R19, R20): kinds 8 and 1, the end of the burst in flight, and a write burst whose first beat goes
to the block that takes its class, at the WRITE's own column where the bank has a row. That the records the WRITE makes wait,
and are taken after a restart which takes effect in its step, is the model's choice (log 28). -/
def Obligations.WriteCommand : Prop :=
  ∀ (s : State) (b : Fin 4) (c : Column) (auto : Bool) (data : Word) (m : Mask),
    s.takesBus = true → s.InboxOk →
      exec (.write b c auto data m) s =
        let p := State.atPosition { s with bus := { s.bus with toStore := some (data, m) } } (.write b c auto)
        let t : Tracker :=
          match p.tracker.burst with
          | none => p.tracker
          | some (b', auto') =>
            { p.tracker.stopBurst with
              banks := if auto' && b' != b then p.tracker.banks.set b' .idle else p.tracker.banks }
        let known := decide (t.mode.source ≠ .unknown)
        let single := known && (t.mode.writeSingle || t.mode.length == .one)
        let q : State := { p with
          inbox := p.inbox
            ++ (if p.tracker.burst = some (b, true) then [.record (p.mkRecord .bus 0 25 .occurrence 8)] else [])
            ++ (if t.banks[b] = .idle then [.record (p.mkRecord .bus 0 25 .occurrence 1)] else [])
          tracker := { t with
            write :=
              if single then none
              else some {
                bank := b, row := t.banks[b].row, start := c, length := if known then t.mode.length else .fullRow
                order := if known then t.mode.order else .sequential, issued := 1, autoclose := auto
                lengthKnown := known }
            banks := if single && auto then t.banks.set b .idle else t.banks
            beatDone := true } }
        .next (State.settleRestart (q.takeWrite
          (q.classify (t.banks[b].row.map fun r => wordAddress s.strapImage.map b r c.toNat)) data m))

/-- BURST_BEAT_ISSUE and BURST_COMPLETE (R11, R13, R16, R19): the burst in flight issues its next beat, a write beat at
the column of R11, a read beat due one read latency later; the last beat of a fixed length, the 1st, 2nd, 4th or 8th, ends
the burst and closes an autoclose burst's bank. That a position whose beat no command brings issues it masked, that a beat
command past a position's own beat begins the next one, and that one without its condition changes nothing, is the model's
(logs 4, 5). -/
def Obligations.BurstBeats : Prop :=
  ∀ (s : State) (data : Word) (m : Mask),
    let last (len : BurstLength) (issued : Nat) : Bool :=
      match len with
      | .one => decide (1 ≤ issued)
      | .two => decide (2 ≤ issued)
      | .four => decide (4 ≤ issued)
      | .eight => decide (8 ≤ issued)
      | .fullRow => false
    let oneLeft : Bool :=
      match s.tracker.write with
      | some w => w.lengthKnown && last w.length (w.issued + 1)
      | none => s.tracker.reading.any fun e => last e.length (e.issued + 1)
    s.takesBus = true →
      (∀ e ∈ s.tracker.reading, s.tracker.write = none → s.tracker.beatDone = false →
        exec (.burstBeatIssue data m) s =
          let done := last e.length (e.issued + 1)
          .next { s with
            tracker := { s.tracker with
              queue := s.tracker.queue.map fun x =>
                if x.issuing then { x with issued := x.issued + 1, issuing := !done } else x
              due := s.tracker.due ++ [s.tracker.position + s.tracker.mode.latency]
              banks := if done && e.autoclose then s.tracker.banks.set e.bank .idle else s.tracker.banks
              beatDone := true } }) ∧
      (∀ w ∈ s.tracker.write, s.tracker.beatDone = false →
        exec (.burstBeatIssue data m) s =
          let done := w.lengthKnown && last w.length (w.issued + 1)
          let q : State := { s with
            bus := { s.bus with toStore := some (data, m) }
            tracker := { s.tracker with
              write := if done then none else some { w with issued := w.issued + 1 }
              banks := if done && w.autoclose then s.tracker.banks.set w.bank .idle else s.tracker.banks
              beatDone := true } }
          .next (q.takeWrite
            (q.classify
              (if w.lengthKnown || w.issued == 0 then
                w.row.map fun r => wordAddress s.strapImage.map w.bank r (burstColumn w.length w.order w.start w.issued)
              else none)) data m)) ∧
      (∀ x ∈ s.tracker.burst, s.tracker.Ok → oneLeft = true →
        ∃ t, exec (.burstComplete data m) s = .next t ∧ exec (.burstBeatIssue data m) s = .next t ∧
          t.tracker.burst = none ∧ (x.2 = true → t.tracker.banks[x.1] = .idle)) ∧
      (s.tracker.beatDone = true → s.tracker.burst ≠ none →
        exec (.burstBeatIssue data m) s = exec (.burstBeatIssue data m) s.beginPosition) ∧
      (s.tracker.burst = none → exec (.burstBeatIssue data m) s = .next s) ∧
      (oneLeft = false → exec (.burstComplete data m) s = .next s) ∧
      (s.tracker.beatDone = false → s.tracker.burst ≠ none →
        ∃ t, exec (.burstBeatIssue 0#32 0xF#4) s = .next t ∧ s.finishPosition = { t with bus := s.bus }) ∧
      (s.tracker.beatDone = true ∨ s.tracker.burst = none → s.finishPosition = s)

/-- READ_BEAT_RETURN and UNPLACED_ARRIVAL (R16, R18, R20, R109): the due beat returns to the oldest entry with a beat
outstanding; delivered where no mask line is asserted and no write beat is driven, with the address of R20, and else passed
unchanged; together with a pending restart that it lets take effect, in either order (log 10), though the records it hands
over wait and are taken after that restart, the model's choice (log 28). That a delivered beat is
answered from the state whose queue its entry has already left is the model's choice (log 27), and so is taking from the
command whether the controller drives a write beat (log 21). Where no beat is due the data reach no entry and leave scaled by
the fallback factor, or unchanged where not delivered. A beat of the burst that the last position has not issued is issued
first; one position's data come once; a return with nothing due, or an unplaced arrival where a beat is due, changes nothing
(logs 4, 5). -/
def Obligations.ReadDataArrivals : Prop :=
  ∀ (s : State) (e : ReadEntry) (d : Nat) (ds : List Nat) (data : Word) (m : Mask) (cd : Bool),
    s.takesBus = true →
      (s.tracker.beatDone = true ∨ s.tracker.burst = none →
        s.tracker.due = d :: ds → d ≤ s.tracker.position + 1 → returning s.tracker.queue = some e →
        let q : State := { s with
          tracker := { s.tracker with
            queue := (returnBeat s.tracker.queue).filter ReadEntry.stays, due := ds, arrived := true } }
        let cls := s.classify
          (e.row.map fun r => wordAddress s.strapImage.map e.bank r (burstColumn e.length e.order e.start e.returned))
        (m ≠ 0#4 ∨ cd = true →
          exec (.readBeatReturn data m cd) s =
            .next (State.settleRestart { q with bus := { q.bus with toController := some data } })) ∧
        (m = 0#4 → cd = false → (s.report.restartPending = false ∨ q.tracker.queue ≠ []) →
          exec (.readBeatReturn data m cd) s = .next (q.takeRead cls data)) ∧
        (m = 0#4 → cd = false → s.report.restartPending = true → q.tracker.queue = [] →
          exec (.readBeatReturn data m cd) s =
              .next { (q.takeRead cls data).settleRestart with choices := s.choices + 1 } ∨
            exec (.readBeatReturn data m cd) s =
              .next { q.settleRestart.takeRead cls data with choices := s.choices + 1 })) ∧
      (s.tracker.due = d :: ds → exec (.readBeatReturn data m cd) s = exec (.readBeatReturn data m cd) s.finishPosition) ∧
      (s.tracker.due = [] → exec (.readBeatReturn data m cd) s = .next s) ∧
      (s.tracker.due = d :: ds → s.tracker.position + 1 < d →
        exec (.readBeatReturn data m cd) s =
          exec (.readBeatReturn data m cd) (s.passPositions (d - (s.tracker.position + 1)))) ∧
      (s.tracker.arrived = false → (∀ d ∈ s.tracker.due.head?, s.tracker.position + 1 < d) →
        exec (.unplacedArrival data m cd) s =
          let p := s.finishPosition
          .next { p with
            tracker := { p.tracker with arrived := true }
            bus := { p.bus with
              toController := some (if m = 0#4 ∧ cd = false then scaleWord s.fallbackFactor data else data) } }) ∧
      (s.tracker.arrived = false → (∃ d ∈ s.tracker.due.head?, d ≤ s.tracker.position + 1) →
        exec (.unplacedArrival data m cd) s = .next s) ∧
      (s.tracker.arrived = true → exec (.unplacedArrival data m cd) s = exec (.unplacedArrival data m cd) s.beginPosition)

/-- The beginning of a position (R3, R16): one position later, with the beat due at it returned before the command. That it
returns masked, and that an unfinished position issues its beat masked, is the model's reading (log 4). -/
def Obligations.PositionBegins : Prop :=
  ∀ (s : State),
    (s.tracker.beatDone = true ∨ s.tracker.burst = none →
      (∀ d ∈ s.tracker.due.head?, s.tracker.position + 1 < d) →
      s.beginPosition =
        { s with tracker := { s.tracker with
          position := s.tracker.position + 1, beatDone := false, resumed := false, arrived := false } }) ∧
    (s.tracker.beatDone = true ∨ s.tracker.burst = none →
      (∃ d ∈ s.tracker.due.head?, d ≤ s.tracker.position + 1) →
      s.beginPosition =
        State.settleRestart { s with
          tracker := { s.tracker with
            position := s.tracker.position + 1, beatDone := false, resumed := false, arrived := false
            due := s.tracker.due.tail
            queue := (returnBeat s.tracker.queue).filter ReadEntry.stays } }) ∧
    (s.tracker.beatDone = false → s.tracker.burst ≠ none →
      s.beginPosition = (s.issueBeat 0#32 0xF#4).beginPosition)

/-- Outside a position (in reset, SUSPENDED or ASLEEP) no bus command is taken (R1, R2, R22): it is only re-driven. While
SUSPENDED or ASLEEP no beat of a burst is issued, no read beat falls due and no beat of the service area passes, so these
commands change nothing (log 6), and neither does a RESUME while not SUSPENDED; a SLEEP_EXIT while not ASLEEP is only
re-driven (log 5). -/
def Obligations.CommandsOutsideAPositionAreNotTaken : Prop :=
  ∀ (s : State) (b : Fin 4) (r : Row) (c : Column) (auto : Bool) (codes : ModeCodes) (data : Word) (m : Mask)
    (f : Fin 8) (k : Fin 32) (off : Fin 2048) (any : Fin 4096),
    (s.tracker.store ≠ .suspended → exec .resume s = .next s) ∧
    (s.tracker.store ≠ .asleep → exec .sleepExit s = .next { s with bus := { s.bus with command := .sleepExit } }) ∧
    (s.inReset = false → s.tracker.store ≠ .awake →
      exec (.burstBeatIssue data m) s = .next s ∧ exec (.burstComplete data m) s = .next s ∧
      exec (.readBeatReturn data m auto) s = .next s ∧ exec (.unplacedArrival data m auto) s = .next s ∧
      exec (.stagingWrite off data m) s = .next s ∧ exec (.timeWordWrite data m) s = .next s ∧
      exec (.modeDeclaration data m) s = .next s ∧ exec (.commitRequest data m) s = .next s ∧
      exec (.restartRequest data m) s = .next s ∧ exec (.run f auto m) s = .next s ∧
      exec (.hold f auto m) s = .next s ∧ exec (.blank f auto m) s = .next s ∧ exec (.dark f auto m) s = .next s ∧
      exec (.release f auto m) s = .next s ∧ exec (.acknowledgment k m) s = .next s ∧
      exec (.slotInactive k m) s = .next s ∧ exec (.filterWrite k data m) s = .next s ∧
      exec (.headerRead k) s = .next s ∧ exec .stampWordRead s = .next s ∧
      exec (.reservedWrite any data m) s = .next s) ∧
    (s.takesBus = false →
      exec (.openBank b r) s = .next { s with bus := { s.bus with command := .openBank b r } } ∧
      exec (.read b c auto) s = .next { s with bus := { s.bus with command := .read b c auto } } ∧
      exec (.write b c auto data m) s =
        .next { s with bus := { s.bus with command := .write b c auto, toStore := some (data, m) } } ∧
      exec (.close b) s = .next { s with bus := { s.bus with command := .close b } } ∧
      exec .closeAll s = .next { s with bus := { s.bus with command := .closeAll } } ∧
      exec .refresh s = .next { s with bus := { s.bus with command := .refresh } } ∧
      exec .sleepEnter s = .next { s with bus := { s.bus with command := .sleepEnter } } ∧
      exec (.modeLoad codes) s = .next { s with bus := { s.bus with command := .modeLoad codes } } ∧
      exec .burstStop s = .next { s with bus := { s.bus with command := .burstStop } } ∧
      exec .noOperation s = .next { s with bus := { s.bus with command := .none } } ∧
      exec .suspend s = .next s)

/-- The columns of a burst (R11): the two orders of a fixed length visit every column of its block of 1, 2, 4 or 8 once,
starting at the start column; a full row is sequential and wraps at 511. The two linearisations (R20, R25) number the
16,777,216 words of the store, each exactly once. -/
def Obligations.BurstColumnsAndWordAddresses : Prop :=
  (∀ (len : BurstLength) (order : BurstOrder) (c : Column),
    let block : Option Nat :=
      match len with
      | .one => some 1
      | .two => some 2
      | .four => some 4
      | .eight => some 8
      | .fullRow => none
    burstColumn len order c 0 = c.toNat ∧
    (∀ n, block = some n →
      (∀ k, k < n → burstColumn len .sequential c k = c.toNat / n * n + (c.toNat % n + k) % n ∧
        burstColumn len .interleaved c k = c.toNat / n * n + (c.toNat % n ^^^ k)) ∧
      (∀ k, k < n → c.toNat / n * n ≤ burstColumn len order c k ∧ burstColumn len order c k < c.toNat / n * n + n ∧
        burstColumn len order c k < 512) ∧
      (∀ j k, j < n → k < n → burstColumn len order c j = burstColumn len order c k → j = k)) ∧
    (block = none → ∀ k, burstColumn len order c k = (c.toNat + k) % 512)) ∧
  ∀ (map : Bool) (b b' : Fin 4) (r r' : Row) (c c' : Column),
    wordAddress map b r c.toNat < 16777216 ∧
    wordAddress false b r c.toNat = (r.toNat * 4 + b.val) * 512 + c.toNat ∧
    wordAddress true b r c.toNat = (b.val * 8192 + r.toNat) * 512 + c.toNat ∧
    (wordAddress map b r c.toNat = wordAddress map b' r' c'.toNat → b = b' ∧ r = r' ∧ c = c')

/-- The class of a beat (R29 to R33): unattributed without a word address, service area within its 4,096 words from the
base of the SVC code (R24: 0, 4,194,304, 8,388,608 or 16,773,120), under
validated tables every pixel and padding word of a configured face placed in that face and buffer, and every other word
other, with the configuration state. -/
def Obligations.BeatPlacement : Prop :=
  ∀ (s : State) (p : Straps) (f : Fin 8) (off w : Nat) (buf : Buffer),
    s.straps = some p → s.PolicyOk →
      Config.serviceBase p =
        (if p.svc = 0 then 0 else if p.svc = 1 then 4194304 else if p.svc = 2 then 8388608 else 16773120) ∧
      s.classify none = .unattributed ∧
      (off < 2048 → s.classify (some (Config.serviceBase p + off)) = .policy off) ∧
      (off < 2048 → s.classify (some (Config.serviceBase p + 2048 + off)) = .report off) ∧
      ((w < Config.serviceBase p ∨ Config.serviceBase p + 4096 ≤ w) →
        (∀ g : Fin 8, s.configured g = true → ∀ base ∈ s.regions[g].baseA :: s.regions[g].baseB.toList,
          w < base ∨ base + s.regions[g].height * s.regions[g].stride ≤ w) →
        s.classify (some w) = .other (decide (∃ g : Fin 8, s.configured g = true))) ∧
      (s.configured f = true → off < s.regions[f].height * s.regions[f].stride →
        (buf = .A ∧ w = s.regions[f].baseA + off ∨ buf = .B ∧ s.regions[f].baseB.map (· + off) = some w) →
          let x := off % s.regions[f].stride
          let line := off / s.regions[f].stride
          s.classify (some w) =
            if x < s.regions[f].width then
              .pixel f buf x line
                (Fin.ofNat 16 (line * 4 / s.regions[f].height * 4 + x * 4 / s.regions[f].width))
            else .padding f buf)

/-- The read-return queue (R16, R17) never holds more than three entries, and the beats due are the beats issued and not
returned, at every step; a restart is pending only on a non-empty queue (R167), and what waits at the Constraint Block
waits behind a record (log 7). -/
def Obligations.StepKeepsTheReadReturnQueue : Prop :=
  ∀ (s t : State),
    step s = .next t →
      (s.tracker.Ok → t.tracker.Ok) ∧ (s.InboxOk ∧ s.RestartOk → t.InboxOk ∧ t.RestartOk)

/-! ### Beats -/

/-- What becomes of a delivered beat of each class (R34, R107, R125, R132). A read: what leaves toward the controller, a
pixel of a DARK face being black and uncounted, its monitor unchanged; the pixel of another face is in
`PixelOfTheFrameInProgress` and `FrameStart`. A write: into a face buffer, a live write; at a policy or report offset, what
the row of that word does, so the statements about those rows speak of it; a mode code, slot code or offset that no row
names is discarded. -/
def Obligations.BeatsByClass : Prop :=
  ∀ (s : State) (w : Word) (m : Mask) (f : Fin 8) (b : Buffer) (x line : Nat) (z : Fin 16) (off : Fin 2048) (cfg : Bool)
    (k : Fin 32),
    let drive (v : Word) : State := { s with bus := { s.bus with toStore := some (v, m) } }
    let answer (v : Word) : State := { s with bus := { s.bus with toController := some v } }
    (s.takeRead .unattributed w = answer (scaleWord s.fallbackFactor w) ∧
      s.takeRead (.padding f b) w = answer w ∧ s.takeRead (.other true) w = answer w ∧
      s.takeRead (.other false) w = answer (scaleWord s.fallbackFactor w) ∧
      s.takeRead (.policy off) w = answer (s.policyRead off) ∧
      s.takeRead (.report off) w = { answer (s.reportRead off) with report := s.report.readLock off } ∧
      (s.faces[f].mode = .dark → s.faces[f].pixel.frameOpen = false →
        s.takeRead (.pixel f b x line z) w = answer (w &&& 0xC0000000#32))) ∧
    (s.takeWrite .unattributed w m = s ∧ s.takeWrite (.other cfg) w m = s ∧
      s.takeWrite (.padding f b) w m = s.takeWrite (.pixel f b x line z) w m ∧
      (s.faces[f].scan.liveWrites ≤ 65535 →
        s.takeWrite (.pixel f b x line z) w m =
          if s.configured f = true ∧ s.faces[f].mode ≠ .dark ∧ s.faces[f].scan.state = .scanning ∧
              s.faces[f].scan.displayed = b then
            { s with
              faces := s.faces.set f
                { s.faces[f] with
                  scan := { s.faces[f].scan with liveWrites := min 65535 (s.faces[f].scan.liveWrites + 1) } } }
          else s)) ∧
    (s.takesBus = true →
      exec (.timeWordWrite w m) s = .next ((drive w).takeWrite (.policy 0) w m) ∧
      exec (.modeDeclaration w m) s = .next ((drive w).takeWrite (.policy 1) w m) ∧
      exec (.commitRequest w m) s = .next ((drive w).takeWrite (.policy 2) w m) ∧
      exec (.restartRequest w m) s = .next ((drive w).takeWrite (.policy 3) w m) ∧
      (let code := w.toNat % 8
        let up := w.getLsbD 3
        let word := BitVec.ofNat 32 (code + 8 * up.toNat)
        let t := (drive word).takeWrite (.policy (4 + f.val)) w m
        (code = 1 → exec (.run f up m) s = .next t) ∧ (code = 2 → exec (.hold f up m) s = .next t) ∧
        (code = 3 → exec (.blank f up m) s = .next t) ∧ (code = 4 → exec (.dark f up m) s = .next t) ∧
        (code = 7 → exec (.release f up m) s = .next t) ∧ (code = 0 ∨ code = 5 ∨ code = 6 → t = drive word)) ∧
      ((stagedAddr off.val).isSome = true →
        exec (.stagingWrite off w m) s = .next ((drive w).takeWrite (.policy off) w m)) ∧
      (w.toNat % 8 = 1 →
        exec (.acknowledgment k m) s = .next ((drive 1#32).takeWrite (.report (1032 + 8 * k.val)) w m)) ∧
      (w.toNat % 8 = 0 →
        exec (.slotInactive k m) s = .next ((drive 0#32).takeWrite (.report (1032 + 8 * k.val)) w m)) ∧
      exec (.filterWrite k w m) s = .next ((drive w).takeWrite (.report (1033 + 8 * k.val)) w m)) ∧
    (2 ≤ w.toNat % 8 → s.takeWrite (.report (1032 + 8 * k.val)) w m = s) ∧
    (12 ≤ off.val → (stagedAddr off.val).isNone = true → s.takeWrite (.policy off) w m = s) ∧
    (off.val < 1032 ∨ 1288 ≤ off.val ∨ 2 ≤ off.val % 8 → s.takeWrite (.report off) w m = s)

/-- Every read beat outside the service area leaves with each component not greater than it arrived and its flag field
unchanged (R107, R108). -/
def Obligations.ReadBeatsNeverBrighten : Prop :=
  ∀ (s : State) (a : Option Nat) (w : Word),
    s.FacesOk → (∀ f : Fin 8, ∀ z : Fin 16, s.policy.active.trim f z ≤ 256) →
      (∃ off, s.classify a = .policy off ∨ s.classify a = .report off) ∨
      ∃ v, (s.readBeat a w).bus.toController = some v ∧ pixelR v ≤ pixelR w ∧ pixelG v ≤ pixelG w ∧
        pixelB v ≤ pixelB w ∧ v.toNat / 2 ^ 30 = w.toNat / 2 ^ 30

/-- R108: each component becomes floor((in × F + 2,048) / 4,096), the flag field as it arrived; and its properties. -/
def Obligations.ScaledWord : Prop :=
  ∀ (w : Word) (f : Nat),
    f ≤ 4096 →
      pixelR (scaleWord f w) = (pixelR w * f + 2048) / 4096 ∧ pixelG (scaleWord f w) = (pixelG w * f + 2048) / 4096 ∧
      pixelB (scaleWord f w) = (pixelB w * f + 2048) / 4096 ∧ (scaleWord f w).toNat / 2 ^ 30 = w.toNat / 2 ^ 30 ∧
      pixelR w * f ≤ 4190208 ∧ pixelG w * f ≤ 4190208 ∧ pixelB w * f ≤ 4190208 ∧
      scaleWord 4096 w = w ∧ (pixelR (scaleWord f w) ≤ pixelR w ∧ pixelG (scaleWord f w) ≤ pixelG w ∧
        pixelB (scaleWord f w) ≤ pixelB w) ∧
      (pixelR (scaleWord 0 w) = 0 ∧ pixelG (scaleWord 0 w) = 0 ∧ pixelB (scaleWord 0 w) = 0) ∧
      (pixelR (scaleWord 1 w) = 0 ∧ pixelG (scaleWord 1 w) = 0 ∧ pixelB (scaleWord 1 w) = 0) ∧
      (pixelR w = 0 → pixelR (scaleWord f w) = 0) ∧ (pixelG w = 0 → pixelG (scaleWord f w) = 0) ∧
      (pixelB w = 0 → pixelB (scaleWord f w) = 0)

/-- A pixel read that continues the frame in progress (R111 to R113, R126, R130): black where the face is blanked, else
scaled by the zone factor; counted unless the count stands at 16,777,215; and the stall timer started anew. -/
def Obligations.PixelOfTheFrameInProgress : Prop :=
  ∀ (s : State) (f : Fin 8) (x line : Nat) (z : Fin 16) (w : Word),
    s.configured f = true → s.faces[f].mode ≠ .dark → s.faces[f].scan.state = .scanning →
    s.faces[f].scan.lastLine ≤ line → s.faces[f].pixel.frameOpen = true →
      s.takeRead (.pixel f s.faces[f].scan.displayed x line z) w =
        let y := s.faces[f]
        let v := if y.mode = .blank ∨ y.causes.blank ≠ [] then w &&& 0xC0000000#32
          else scaleWord (y.pixel.factor * s.policy.active.trim f z / 256) w
        { s with
          bus := { s.bus with toController := some v }
          faces := s.faces.set f { y with
            scan := { y.scan with
              timer := .running s.policy.active.stallWindow, lastLine := line
              linesSeen := if y.scan.lastLine < line then y.scan.linesSeen + 1 else y.scan.linesSeen }
            pixel := if y.pixel.count < 16777215 then
                { y.pixel with
                  count := y.pixel.count + 1, sumIn := y.pixel.sumIn + (pixelR w + pixelG w + pixelB w)
                  sumOut := y.pixel.sumOut + (pixelR v + pixelG v + pixelB v) }
              else y.pixel } }

/-- A frame start (R112, R114, R115, R126 to R130, R152): the supervisor's monitor, its records and the scaler's in their
order, the completed frame's APLs and APL factor, the frame factor of the frame it opens, and its starting beat. What is
handed over waits behind the records, and a completion that finds none waiting is taken at once (log 7). Whether the
starting beat is taken before an automatic release that the completion gives at once is free (log 9). That a blank cause
which a record of this frame start strikes, and the release of a completion that waits behind a record, come after it is the
model's choice (log 24), and so is that no entry to DARK comes between signal and frame start (log 25). -/
def Obligations.FrameStart : Prop :=
  ∀ (s : State) (f : Fin 8) (b : Buffer) (x line : Nat) (z : Fin 16) (w : Word),
    s.configured f = true → s.faces[f].mode ≠ .dark → s.InboxOk →
    (s.faces[f].scan.state ≠ .scanning ∨ b ≠ s.faces[f].scan.displayed ∨ line < s.faces[f].scan.lastLine) →
      let t := s.takeRead (.pixel f b x line z) w
      let y := s.faces[f]
      let r := s.policy.active.face f
      let flip := decide (b ≠ y.scan.displayed ∧ y.scan.state ≠ .noSignal)
      let dwell := (s.time.stamp - y.scan.lastFlip).toNat
      let aIn := y.pixel.sumIn / (3 * y.pixel.count)
      let aOut := y.pixel.sumOut / (3 * y.pixel.count)
      let fApl := if y.pixel.frameOpen then
          if r.aplLimit = 0 ∨ aIn ≤ r.aplLimit then 4096 else r.aplLimit * 4096 / aIn
        else y.pixel.aplFactor
      let q := y.level.held / 256
      let factor := min (if q < 4095 then q else 4096) fApl
      let records : List Record :=
        (if y.scan.state = .scanning ∧ y.scan.linesSeen < s.regions[f].height then
          [s.mkRecord .face f.val 4 .occurrence y.scan.linesSeen] else [])
        ++ (if y.scan.state = .stalled then [s.mkRecord .face f.val 1 .clear 0] else [])
        ++ (if flip = true ∧ dwell < s.policy.active.minDwell then
          [s.mkRecord .face f.val 2 .occurrence (min (dwell / 10) 65535)] else [])
        ++ (if y.pixel.frameOpen = true ∧ r.aplLimit ≠ 0 ∧ r.aplLimit + s.policy.active.aplTolerance < aOut then
          [s.mkRecord .face f.val 3 .occurrence aOut] else [])
      let causes := if s.inbox = [] ∧ records = [] ∧ y.pixel.frameOpen = true then
          y.causes.completed s.policy.active.cleanFrames else y.causes
      let leaves (c : CauseState) : Prop :=
        let v := if y.mode = .blank ∨ c.blank ≠ [] then w &&& 0xC0000000#32
          else scaleWord (factor * s.policy.active.trim f z / 256) w
        t.bus.toController = some v ∧ t.faces[f].pixel.sumOut = pixelR v + pixelG v + pixelB v
      (leaves y.causes ∨ leaves causes) ∧ t.faces[f].causes = causes ∧
      t.faces[f].scan =
          { state := .scanning, displayed := b, lastLine := line, linesSeen := 1
            lastFlip := if flip = true ∨ y.scan.state = .noSignal then s.time.stamp else y.scan.lastFlip
            timer := .running s.policy.active.stallWindow, liveWrites := y.scan.liveWrites } ∧
      t.faces[f].pixel.aplFactor = fApl ∧ t.faces[f].pixel.factor = factor ∧
      t.faces[f].pixel.frameOpen = true ∧ t.faces[f].pixel.count = 1 ∧
      t.faces[f].pixel.sumIn = pixelR w + pixelG w + pixelB w ∧
      t.faces[f].pixel.aplIn = (if y.pixel.frameOpen then aIn else y.pixel.aplIn) ∧
      t.faces[f].pixel.aplOut = (if y.pixel.frameOpen then aOut else y.pixel.aplOut) ∧
      t.faces[f].pixel.frames = (if y.pixel.frameOpen then y.pixel.frames + 1 else y.pixel.frames) ∧
      t.faces[f].mode = y.mode ∧ t.faces[f].level = y.level ∧
      (∀ g : Fin 8, g ≠ f → t.faces[g] = s.faces[g]) ∧
      t.inbox = (if s.inbox = [] ∧ records = [] then []
        else s.inbox ++ records.map Notice.record ++ if y.pixel.frameOpen then [.completion f] else []) ∧
      t = { s with faces := t.faces, inbox := t.inbox, bus := { s.bus with toController := t.bus.toController }
                   choices := t.choices }

/-! ### The Policy Block -/

/-- STAGING_WRITE (R37, R55, R169): each unmasked lane of an unlocked word takes its defined bits and drops the reserved
ones; a write to a locked word is lost and counted unless wholly masked; every other word reads as before. The section, the
policy offset and the defined bits of each word are those of 12.4 (R48 to R53). -/
def Obligations.StagingWrites : Prop :=
  ∀ (s : State) (off : Fin 2048) (a : StagedAddr) (data : Word) (m : Mask),
    let place : Sec × Nat × List (Nat × Nat) :=
      match a with
      | .face f w => (.F, 16 + 16 * f.val + w.val,
          match w.val with
          | 0 => [(0, 2), (4, 5), (8, 11)]
          | 1 => [(0, 23)]
          | 2 => [(0, 23)]
          | 3 => [(0, 11), (16, 26)]
          | 4 => [(0, 3)]
          | 5 => [(0, 31)]
          | 6 => [(0, 15)]
          | 7 => [(0, 11), (16, 27)]
          | _ => [(0, 9)])
      | .curve k w => (.C, 144 + 32 * k.val + w.val, if w.val = 0 then [(0, 4)] else [(0, 28)])
      | .sched e w => (.S, 272 + 2 * e.val + w.val, if w.val = 0 then [(0, 0), (8, 29)] else [(0, 15)])
      | .trim f z => (.Z, 336 + 16 * f.val + z.val, [(0, 8)])
      | .action c => (.A, 464 + c.val, [(0, 1), (8, 8)])
      | .param p => (.G, 496 + p.val, [(0, 15)])
    let sec := place.1
    let fields := place.2.2
    s.takesBus = true → off.val = place.2.1 →
      (s.policy.locked sec = false →
        ∃ t, exec (.stagingWrite off data m) s = .next t ∧
          t = { s with
            bus := { s.bus with toStore := some (data, m) }
            policy := { s.policy with staging := t.policy.staging } } ∧
          (∀ i : Fin 32, (t.policyRead off.val).getLsbD i.val =
            if m.getLsbD (i.val / 8) then (s.policyRead off.val).getLsbD i.val
            else data.getLsbD i.val && fields.any fun (lo, hi) => decide (lo ≤ i.val ∧ i.val ≤ hi)) ∧
          ∀ o : Fin 2048, o ≠ off → t.policyRead o.val = s.policyRead o.val) ∧
      (s.policy.locked sec = true → s.policy.status.lost ≤ 255 →
        exec (.stagingWrite off data m) s =
          .next { s with
            bus := { s.bus with toStore := some (data, m) }
            policy := { s.policy with
              status := { s.policy.status with
                lost := if m = 0xF#4 then s.policy.status.lost else min 255 (s.policy.status.lost + 1) } } })

/-- TIME_WORD_WRITE and MODE_DECLARATION (R9, R10, R39 to R41, R68): a whole valid word sets time-of-day, or the mode image
as DECLARED with a TRACK LOST clear out of LOST; a masked or invalid one changes nothing but the store's word. -/
def Obligations.TimeWordAndModeDeclaration : Prop :=
  ∀ (s : State) (data : Word) (m : Mask),
    s.takesBus = true →
      let s' : State := { s with bus := { s.bus with toStore := some (data, m) } }
      let minute := data.toNat / 65536 % 16384
      let ms := data.toNat % 65536
      (exec (.timeWordWrite data m) s =
        .next (if m = 0#4 ∧ minute < 10080 ∧ ms < 60000 then
          { s' with time := { s'.time with tod := { set := true, minute := minute, ms := ms } } } else s')) ∧
      let latency := data.toNat / 16 % 8
      let valid : Prop :=
        data.toNat % 8 ∈ [0, 1, 2, 3, 7] ∧ latency ∈ [2, 3] ∧ ¬ (data.toNat % 8 = 7 ∧ data.getLsbD 3 = true)
      (m ≠ 0#4 ∨ ¬ valid → exec (.modeDeclaration data m) s = .next s') ∧
      (∀ x ∈ [(0, BurstLength.one), (1, .two), (2, .four), (3, .eight), (7, .fullRow)],
        data.toNat % 8 = x.1 → m = 0#4 → s.InboxOk → valid → exec (.modeDeclaration data m) s =
          .next { s' with
            tracker := { s'.tracker with
              mode := {
                length := x.2, order := if data.getLsbD 3 then .interleaved else .sequential
                latency := latency, writeSingle := data.getLsbD 7, source := .declared } }
            inbox := s'.inbox ++
              if s.tracker.mode.source = .unknown then [.record (s.mkRecord .bus 0 24 .clear 0)] else [] })

/-- What the policy page reads (R38, R40 to R43, R47, R48 to R53, R170): the time word, the mode image, the last commit
started, the pending flag, each face's mode and catch-up flag, the staged words of the six sections, and 0 elsewhere. -/
def Obligations.PolicyPageReads : Prop :=
  ∀ (s : State) (f : Fin 8) (c : Fin 32) (off : Fin 2048),
    s.TimeOk → s.tracker.Ok →
      let m := s.tracker.mode
      let d := s.time.tod
      let g := s.policy.staging
      s.policyRead 0 = (if d.set then BitVec.ofNat 32 (d.ms + d.minute * 65536 + 2147483648) else 0#32) ∧
      s.policyRead 1 = BitVec.ofNat 32
        ((match m.length with
          | .one => 0
          | .two => 1
          | .four => 2
          | .eight => 3
          | .fullRow => 7)
        + (if m.order = .interleaved then 8 else 0) + m.latency * 16 + (if m.writeSingle then 128 else 0)
        + match m.source with
          | .unknown => 0
          | .declared => 256
          | .loaded => 512) ∧
      s.policyRead 2 = BitVec.ofNat 32 (s.policy.commitWord.mask.toNat + s.policy.commitWord.seq.toNat * 256) ∧
      s.policyRead 3 = (if s.report.restartPending then 1#32 else 0#32) ∧
      (s.configured f = true →
        s.policyRead (4 + f.val) = BitVec.ofNat 32
          ((match s.faces[f].mode with
            | .run => 1
            | .hold => 2
            | .blank => 3
            | .dark => 4)
          + if s.faces[f].level.catchUp then 8 else 0)) ∧
      (s.configured f = false → s.policyRead (4 + f.val) = 4#32) ∧
      (∀ w : Fin 16, s.policyRead (16 + 16 * f.val + w.val) = if h : w.val < 9 then g.faces[f][w.val] else 0#32) ∧
      (∀ k : Fin 4, ∀ w : Fin 32,
        s.policyRead (144 + 32 * k.val + w.val) = if h : w.val < 17 then g.curves[k][w.val] else 0#32) ∧
      (∀ w : Fin 2, s.policyRead (272 + 2 * c.val + w.val) = g.schedule[c][w]) ∧
      (∀ z : Fin 16, s.policyRead (336 + 16 * f.val + z.val) = g.trims[f][z]) ∧
      s.policyRead (464 + c.val) = g.actions[c] ∧
      (∀ w : Fin 7, s.policyRead (496 + w.val) = g.params[w]) ∧
      (12 ≤ off.val ∧ off.val < 16 ∨ 503 ≤ off.val → s.policyRead off = 0#32)

/-- COMMIT_REQUEST (R39, R42, R54): a whole request starts a commit where none is in flight, and is refused and counted
where one is; a masked one is discarded. -/
def Obligations.CommitRequests : Prop :=
  ∀ (s : State) (data : Word) (m : Mask),
    s.takesBus = true →
      let s' : State := { s with bus := { s.bus with toStore := some (data, m) } }
      (m = 0#4 → s.policy.status.state ≠ .inFlight →
        exec (.commitRequest data m) s =
          .next { s' with
            policy := { s'.policy with
              commitWord := { mask := data.setWidth 6, seq := (data >>> 8).setWidth 8 }
              status := { seq := (data >>> 8).setWidth 8, state := .inFlight, failure := none, lost := 0 } } }) ∧
      (m = 0#4 → s.policy.status.state = .inFlight → s.policy.refused ≤ 255 →
        exec (.commitRequest data m) s =
          .next { s' with policy := { s'.policy with refused := min 255 (s.policy.refused + 1) } }) ∧
      (m ≠ 0#4 → exec (.commitRequest data m) s = .next s')

/-- The checks of a commit (R56) in the order of R57, on the fields of 12.4: faces, curves, schedule entries, trims, actions
and parameters in turn, and the first that fails decides, with its section. Two extents overlap where the greater of their
bases lies below the lesser of their ends. The named fields that the rest of the model reads from any tables, staged or
active, are the bits of 12.4. -/
def Obligations.CommitChecks : Prop :=
  ∀ (t : Tables) (base : Nat) (why : Reason),
    let field (w : Word) (lo n : Nat) : Nat := w.toNat / 2 ^ lo % 2 ^ n
    let word (f : Fin 8) (w : Fin 9) : Word := t.faces[f][w]
    let enabled (f : Fin 8) : Prop := field (word f 0) 0 1 = 1
    let width (f : Fin 8) := field (word f 3) 0 12
    let height (f : Fin 8) := field (word f 3) 16 11
    let exponent (f : Fin 8) := field (word f 4) 0 4
    let size (f : Fin 8) := height f * 2 ^ exponent f
    let bases (f : Fin 8) : List Nat :=
      field (word f 1) 0 24 :: if field (word f 0) 1 1 = 1 then [field (word f 2) 0 24] else []
    let meet (a n b m : Nat) : Prop := max a b < min (a + n) (b + m)
    let F (f : Fin 8) : Option Reason :=
      if ¬ enabled f then none
      else if ¬ ((1 ≤ width f ∧ width f ≤ 2048) ∧ (1 ≤ height f ∧ height f ≤ 1024) ∧
          (6 ≤ exponent f ∧ exponent f ≤ 11) ∧ width f ≤ 2 ^ exponent f ∧
          ∀ b ∈ bases f, b + size f ≤ 16777216) then some .faceGeometry
      else if (∃ b ∈ (bases f).tail, meet b (size f) (field (word f 1) 0 24) (size f)) ∨
          (∃ g : Fin 8, g < f ∧ enabled g ∧ ∃ a ∈ bases f, ∃ b ∈ bases g, meet a (size f) b (size g)) then
        some .faceOverlap
      else if ∃ b ∈ bases f, meet b (size f) base 4096 then some .faceInService
      else if field t.curves[(Fin.ofNat 4 (field (word f 0) 4 2))][(0 : Fin 17)] 0 5 = 0 then some .faceCurveUnused
      else if field (word f 5) 0 16 = 0 ∨ field (word f 5) 16 16 = 0 ∨ field (word f 6) 0 16 = 0 then some .rateZero
      else none
    let code (k : Fin 4) (i : Fin 16) := field t.curves[k][i.succ] 0 16
    let level (k : Fin 4) (i : Fin 16) := field t.curves[k][i.succ] 16 13
    let C (k : Fin 4) : Option Reason :=
      let n := field t.curves[k][(0 : Fin 17)] 0 5
      if n = 1 ∨ 16 < n then some .curveCount
      else if ∃ i : Fin 16, i.val < n ∧ (4095 < level k i ∨
          ∃ j : Fin 16, i < j ∧ j.val < n ∧ (code k j ≤ code k i ∨ level k j < level k i)) then some .curveOrder
      else none
    let used (e : Fin 32) : Prop := field t.schedule[e][(0 : Fin 2)] 0 1 = 1
    let start (e : Fin 32) := field t.schedule[e][(0 : Fin 2)] 16 14
    let S (e : Fin 32) : Option Reason :=
      if ¬ used e then none
      else if 10080 ≤ start e ∨ 4095 < field t.schedule[e][(1 : Fin 2)] 0 16 then some .scheduleRange
      else if ∃ g : Fin 32, g < e ∧ used g ∧ start g = start e ∧ ∃ f : Fin 8,
          field t.schedule[g][(0 : Fin 2)] (8 + f.val) 1 = 1 ∧ field t.schedule[e][(0 : Fin 2)] (8 + f.val) 1 = 1 then
        some .scheduleDuplicate
      else none
    let Z : Prop := ∃ f : Fin 8, ∃ z : Fin 16, 256 < field t.trims[f][z] 0 9
    let A : Prop := ∃ c : Fin 32,
      1 < field t.actions[c] 0 2 ∧ c.val ∈ [24, 25] ∨
        field t.actions[c] 0 2 ≠ 0 ∧ c.val ∉ [1, 2, 3, 4, 8, 9, 10, 16, 17, 18, 19, 20, 24, 25]
    let value (w : Fin 7) := field t.params[w] 0 16
    let G : Prop :=
      4095 < value 0 ∨ (value 1 < 20 ∨ 5000 < value 1) ∨ 60000 < value 2 ∨ (value 3 < 1 ∨ 255 < value 3) ∨
        (value 4 < 200 ∨ 30000 < value 4) ∨ (value 5 < 1000 ∨ 60000 < value 5) ∨ 255 < value 6
    let okF : Prop := ∀ f, F f = none
    let okC : Prop := ∀ k, C k = none
    let okS : Prop := ∀ e, S e = none
    (t.validate base = some (why, .F) ↔ ∃ f, F f = some why ∧ ∀ g, g < f → F g = none) ∧
    (t.validate base = some (why, .C) ↔ okF ∧ ∃ k, C k = some why ∧ ∀ j, j < k → C j = none) ∧
    (t.validate base = some (why, .S) ↔ okF ∧ okC ∧ ∃ e, S e = some why ∧ ∀ g, g < e → S g = none) ∧
    (t.validate base = some (why, .Z) ↔ okF ∧ okC ∧ okS ∧ Z ∧ why = .trimRange) ∧
    (t.validate base = some (why, .A) ↔ okF ∧ okC ∧ okS ∧ ¬ Z ∧ A ∧ why = .actionCode) ∧
    (t.validate base = some (why, .G) ↔ okF ∧ okC ∧ okS ∧ ¬ Z ∧ ¬ A ∧ G ∧ why = .parameterRange) ∧
    (t.validate base = none ↔ okF ∧ okC ∧ okS ∧ ¬ Z ∧ ¬ A ∧ ¬ G) ∧
    (∀ f : Fin 8, t.face f =
      { enabled := decide (enabled f), combineMin := decide (field (word f 0) 2 1 = 1)
        curve := Fin.ofNat 4 (field (word f 0) 4 2), sensorMask := BitVec.ofNat 4 (field (word f 0) 8 4)
        baseA := field (word f 1) 0 24, baseB := (bases f).tail.head?
        width := width f, height := height f, strideExp := exponent f
        rise := field (word f 5) 0 16, fall := field (word f 5) 16 16, fast := field (word f 6) 0 16
        loss := field (word f 7) 0 12, derate := field (word f 7) 16 12, aplLimit := field (word f 8) 0 10 }) ∧
    (∀ k : Fin 4, t.curveCount k = field t.curves[k][(0 : Fin 17)] 0 5 ∧
      (t.curvePoints k).length = min 16 (t.curveCount k) ∧
      ∀ i : Fin 16, i.val < t.curveCount k → (t.curvePoints k)[i.val]? = some (code k i, level k i)) ∧
    (t.entries.length = 32 ∧ ∀ e : Fin 32, t.entries[e.val]? = some
      { used := decide (used e), faces := BitVec.ofNat 8 (field t.schedule[e][(0 : Fin 2)] 8 8), start := start e
        cap := field t.schedule[e][(1 : Fin 2)] 0 16 }) ∧
    (∀ f : Fin 8, ∀ z : Fin 16, t.trim f z = field t.trims[f][z] 0 9) ∧
    (∀ c : Fin 32, [Action.none, .report, .derate, .blank][field t.actions[c] 0 2]? = some (t.action c) ∧
      t.latch c = decide (field t.actions[c] 8 1 = 1)) ∧
    [t.unsetCap, t.stallWindow, t.minDwell, t.cleanFrames, t.staleTimeout, t.silentTimeout, t.aplTolerance] =
      (List.finRange 7).map value

/-- VALIDATION_FAILURE and SWITCH (R56, R58, R59): the checks of the resulting set, which `CommitChecks` states, decide which of
the two ends the commit; a failure changes the status record alone, a switch puts every named section in force together.
That the one which the checks do not give changes nothing, and neither does either with no commit in flight (R54) or in reset,
is the model's (log 5). -/
def Obligations.CommitEnds : Prop :=
  ∀ (s : State) (p : Straps),
    (s.inReset = true ∨ s.policy.status.state ≠ .inFlight →
      exec .switch s = .next s ∧ exec .validationFailure s = .next s) ∧
    (s.inReset = false → s.straps = some p → s.policy.status.state = .inFlight →
      let k := s.policy.commitWord.mask
      let result : Tables :=
        { faces := if k.getLsbD 0 then s.policy.staging.faces else s.policy.active.faces
          curves := if k.getLsbD 1 then s.policy.staging.curves else s.policy.active.curves
          schedule := if k.getLsbD 2 then s.policy.staging.schedule else s.policy.active.schedule
          trims := if k.getLsbD 3 then s.policy.staging.trims else s.policy.active.trims
          actions := if k.getLsbD 4 then s.policy.staging.actions else s.policy.active.actions
          params := if k.getLsbD 5 then s.policy.staging.params else s.policy.active.params }
      (∀ why ∈ result.validate (Config.serviceBase p),
        exec .switch s = .next s ∧
        exec .validationFailure s =
          .next { s with
            policy := { s.policy with status := { s.policy.status with state := .rejected, failure := some why } } }) ∧
      (result.validate (Config.serviceBase p) = none →
        exec .validationFailure s = .next s ∧
        ∃ t, exec .switch s = .next t ∧
          t.policy =
            { s.policy with
              active := result, status := { s.policy.status with state := .accepted, failure := none } } ∧
          t.tracker = s.tracker ∧ t.time = s.time ∧ t.light = s.light ∧ t.report = s.report ∧ t.bus = s.bus ∧
          t.straps = s.straps ∧ t.inReset = false))

/-- The announcements of a switch (R27, R60, R95, R103 to R105, R119 to R121, R134, R144, R156), face by face, and the
conditions they make false at once, a STALLED face's SCAN STALL among them (R151). No record is made; where the onset of a
stall that ends still waits to be taken, its end is put right behind the last such onset, and all else that waits keeps its
order (log 7). That a changed record keeps the last line and the
lines seen is the model's choice (log 26). -/
def Obligations.SwitchAnnouncements : Prop :=
  ∀ (s : State) (p : Straps) (f : Fin 8),
    s.inReset = false → s.straps = some p → s.policy.status.state = .inFlight → s.PolicyOk →
    s.commitFailure = none →
      ∃ t, exec .switch s = .next t ∧
        let y := s.faces[f]
        let r := t.policy.active.face f
        let waits (g : Fin 8) (n : Notice) : Bool :=
          match n with
          | .record r => r.key.toNat == 8193 + 32 * g.val && r.event == .onset
          | _ => false
        let ended (g : Fin 8) : Bool :=
          s.configured g && (t.policy.active.face g).enabled && t.policy.active.face g != s.policy.active.face g &&
            s.faces[g].scan.state == .stalled
        let ends (c : Cause) : Prop :=
          c.cls ∈ [8, 9, 10] ∧ r.sensorMask.getLsbD c.src = false ∨
            y.scan.state = .stalled ∧ c.cls = 1 ∧ c.src = f.val
        t.configured f = r.enabled ∧
        (s.configured f = false → r.enabled = true →
          t.faces[f] = { mode := .run
                         level := { held := Config.fallbackLevel p * 256, catchUp := false, light := none, curve := 0
                                    cap := 0, target := 0 }
                         pixel := { factor := Config.fallbackLevel p, aplFactor := 4096, frameOpen := false, count := 0
                                    sumIn := 0, sumOut := 0, aplIn := 0, aplOut := 0, frames := 0#32 }
                         scan := { state := .noSignal, displayed := .A, lastLine := 0, linesSeen := 0, lastFlip := 0#32
                                   timer := .stopped, liveWrites := 0 }
                         causes := { blank := [], derate := [], clean := 0 } } ∧
          ∀ i : Fin 32, t.tiles.entries[f][i].Cleared) ∧
        (s.configured f = true → r.enabled = false →
          t.shownMode f = .dark ∧ t.faces[f].level.catchUp = false ∧ t.faces[f].causes = .reset ∧
          t.faces[f].pixel.frameOpen = false ∧ t.faces[f].scan.timer = .stopped ∧
          ∀ i : Fin 32, t.tiles.entries[f][i].Cleared) ∧
        (s.configured f = true → r.enabled = true → r ≠ s.policy.active.face f →
          t.regions[f] = { configured := true, baseA := r.baseA, baseB := r.baseB, width := r.width, height := r.height
                           stride := r.stride } ∧
          t.faces[f].mode = y.mode ∧ t.faces[f].level = y.level ∧
          t.faces[f].scan = { y.scan with state := .noSignal, timer := .stopped } ∧
          t.faces[f].pixel = { y.pixel with frameOpen := false, count := 0, sumIn := 0, sumOut := 0 } ∧
          t.tiles.entries[f] = s.tiles.entries[f] ∧
          t.faces[f].causes.clean = y.causes.clean ∧
          t.faces[f].causes.blank = y.causes.blank.map (fun c => if ends c then { c with cond := false } else c) ∧
          t.faces[f].causes.derate = y.causes.derate.map (fun c => if ends c then { c with cond := false } else c)) ∧
        (r = s.policy.active.face f ∨ (s.configured f = false ∧ r.enabled = false) →
          t.faces[f] = y ∧ t.tiles.entries[f] = s.tiles.entries[f]) ∧
        t.inbox.filter Notice.isRecord = s.inbox.filter Notice.isRecord ∧
        t.inbox = s.inbox.tails.flatMap fun l =>
          match l with
          | [] => []
          | n :: back =>
            n :: ((List.finRange 8).filter fun g => ended g && waits g n && !back.any (waits g)).map .stallEnded

/-- RUN, HOLD and BLANK (R39, R44, R47): the mode of a configured face and its catch-up flag; a masked write and one to an
unconfigured face are discarded. -/
def Obligations.FaceModeWrites : Prop :=
  ∀ (s : State) (f : Fin 8) (catchUp : Bool) (m : Mask),
    s.takesBus = true →
      let word (code : Nat) : Word := BitVec.ofNat 32 (code + 8 * catchUp.toNat)
      let s' (code : Nat) : State := { s with bus := { s.bus with toStore := some (word code, m) } }
      let set (x : Mode) (up : Bool) : Vector FaceState 8 :=
        s.faces.set f { s.faces[f] with mode := x, level := { s.faces[f].level with catchUp := up } }
      (m = 0#4 → s.configured f = true →
        exec (.run f catchUp m) s = .next { s' 1 with faces := set .run catchUp } ∧
        exec (.hold f catchUp m) s = .next { s' 2 with faces := set .hold false } ∧
        exec (.blank f catchUp m) s = .next { s' 3 with faces := set .blank false }) ∧
      (m ≠ 0#4 ∨ s.configured f = false →
        exec (.run f catchUp m) s = .next (s' 1) ∧ exec (.hold f catchUp m) s = .next (s' 2) ∧
        exec (.blank f catchUp m) s = .next (s' 3) ∧ exec (.dark f catchUp m) s = .next (s' 4) ∧
        exec (.release f catchUp m) s = .next (s' 7))

/-- DARK and RELEASE (R44 to R46, R98, R117, R133, R151, R153): an entry to DARK sets the held level and the published values
to 0, the scan to NO SIGNAL and abandons the frame; of a STALLED face it makes the SCAN STALL condition false at once; a
RELEASE drops every cause whose condition is false. Where the onset of that stall still waits to be taken, its end is put
behind it (log 7); the last line and the lines seen of a face that goes DARK are kept (log 26). -/
def Obligations.DarkAndRelease : Prop :=
  ∀ (s : State) (f : Fin 8) (catchUp : Bool),
    s.takesBus = true → s.configured f = true →
      let word (code : Nat) : Word := BitVec.ofNat 32 (code + 8 * catchUp.toNat)
      let s' (code : Nat) : State := { s with bus := { s.bus with toStore := some (word code, 0#4) } }
      let y := s.faces[f]
      let waits (n : Notice) : Prop :=
        match n with
        | .record r => r.key.toNat = 8193 + 32 * f.val ∧ r.event = .onset
        | _ => False
      let ended (cs : List Cause) : List Cause :=
        cs.map fun c => if c.cls = 1 ∧ c.src = f.val then { c with cond := false } else c
      let entered (causes : CauseState) : State := { s' 4 with
        faces := s.faces.set f { y with
          mode := .dark
          level := { held := 0, catchUp := false, light := none, curve := 0, cap := 0, target := 0 }
          scan := { y.scan with state := .noSignal, timer := .stopped }
          pixel := { y.pixel with frameOpen := false, count := 0, sumIn := 0, sumOut := 0 }
          causes := causes } }
      let released : CauseState :=
        { y.causes with blank := ended y.causes.blank, derate := ended y.causes.derate }
      (y.mode ≠ .dark → y.scan.state ≠ .stalled → exec (.dark f catchUp 0#4) s = .next (entered y.causes)) ∧
      (y.mode ≠ .dark → y.scan.state = .stalled → (∀ n ∈ s.inbox, ¬ waits n) →
        exec (.dark f catchUp 0#4) s = .next (entered released)) ∧
      (∀ (front back : List Notice) (n : Notice),
        y.mode ≠ .dark → y.scan.state = .stalled → s.inbox = front ++ n :: back → waits n → (∀ x ∈ back, ¬ waits x) →
          exec (.dark f catchUp 0#4) s = .next { entered released with inbox := front ++ n :: .stallEnded f :: back }) ∧
      (y.mode = .dark →
        exec (.dark f catchUp 0#4) s =
          .next { s' 4 with faces := s.faces.set f { y with level := { y.level with catchUp := false } } }) ∧
      exec (.release f catchUp 0#4) s =
        .next { s' 7 with
          faces := s.faces.set f { y with
            causes := { blank := y.causes.blank.filter (·.cond), derate := y.causes.derate.filter (·.cond), clean := 0 } } }

/-- RESTART_REQUEST and MONITOR_RESTART (R43, R86, R124, R136, R146, R156, R167): at once on an empty read-return queue, else
pending, and absorbed where one is pending; what the restart sets in each block and what it keeps. That MONITOR_RESTART
on its own acts on an empty queue alone is the model's (log 11). -/
def Obligations.MonitorRestarts : Prop :=
  ∀ (s : State) (data : Word) (m : Mask),
    let s' : State := { s with bus := { s.bus with toStore := some (data, m) } }
    (s.takesBus = true → m = 0#4 → data.getLsbD 0 = true → s.report.restartPending = false → s.tracker.queue = [] →
      exec (.restartRequest data m) s = .next s'.restart) ∧
    (s.takesBus = true → m = 0#4 → data.getLsbD 0 = true → s.report.restartPending = false → s.tracker.queue ≠ [] →
      exec (.restartRequest data m) s = .next { s' with report := { s'.report with restartPending := true } }) ∧
    (s.takesBus = true → (m ≠ 0#4 ∨ data.getLsbD 0 = false ∨ s.report.restartPending = true) →
      exec (.restartRequest data m) s = .next s') ∧
    (s.inReset = false → s.tracker.queue = [] → exec .monitorRestart s = .next s.restart) ∧
    (s.tracker.queue ≠ [] → exec .monitorRestart s = .next s) ∧
    (
      let t := s.restart
      t.report = { s.report with queue := [], drop := 0, lock := none, restartPending := false } ∧
      (∀ ch : Fin 4, t.light.channels[ch].AtReset) ∧ t.light.shortFrames = 0 ∧
      (∀ f : Fin 8, ∀ i : Fin 32, t.tiles.entries[f][i].Cleared) ∧ t.tiles.errors = 0 ∧ t.tiles.discarded = 0 ∧
      (∀ f : Fin 8, t.faces[f] =
        { s.faces[f] with
          causes := { blank := [], derate := [], clean := 0 }
          scan := { s.faces[f].scan with state := .noSignal, timer := .stopped, liveWrites := 0 }
          pixel := if s.configured f then
              { s.faces[f].pixel with frameOpen := false, count := 0, sumIn := 0, sumOut := 0, aplFactor := 4096 }
            else s.faces[f].pixel }) ∧
      t = { s with report := t.report, light := t.light, tiles := t.tiles, faces := t.faces })

/-- RESERVED_WRITE (R37, R39, R162, R169): a write beat at any reserved offset of either page changes nothing of the part but
what the store is driven. -/
def Obligations.ReservedWrites : Prop :=
  ∀ (s : State) (off : Fin 4096) (data : Word) (m : Mask),
    s.takesBus = true → (Instr.reservedWrite off data m).wellFormed = true →
      exec (.reservedWrite off data m) s = .next { s with bus := { s.bus with toStore := some (data, m) } }

/-- The active tables always pass commit validation, and the region table is their section F (R27, R59). -/
def Obligations.StepKeepsTheActiveTablesValid : Prop :=
  ∀ (s t : State), s.PolicyOk → step s = .next t → t.PolicyOk

/-! ### Time, light and level -/

/-- ONE_MS_EVENT (R64 to R67, R69): stamp, time-of-day, tick phase and every timer; what the last 1 ms event made due and no
command has taken is taken first, as by the commands of time in their order (logs 12, 13), and leaves nothing due. That the
command starts the prescaler anew is log 3, that a raised tick is a flag log 12, and that a timer stands due at 0 log 13. -/
def Obligations.OneMillisecondEvent : Prop :=
  ∀ (s : State),
    s.inReset = false →
      (s.TimeOk → s.NothingDue →
        ∃ t, exec .oneMsEvent s = .next t ∧
          t.time = {
            prescaler := 0
            stamp := s.time.stamp + 1
            tod := if s.time.tod.set then
                { set := true, ms := (s.time.tod.ms + 1) % 60000
                  minute := (s.time.tod.minute + (s.time.tod.ms + 1) / 60000) % 10080 }
              else s.time.tod
            phase := (s.time.phase + 1) % 100
            tickRaised := s.time.phase == 99 } ∧
          (∀ ch : Fin 4, t.light.channels[ch] =
            { s.light.channels[ch] with timer := s.light.channels[ch].timer.ms }) ∧
          (∀ f : Fin 8, t.faces[f] =
            { s.faces[f] with scan := { s.faces[f].scan with timer := s.faces[f].scan.timer.ms } }) ∧
          (∀ f : Fin 8, ∀ i : Fin 32, t.tiles.entries[f][i] =
            { s.tiles.entries[f][i] with timer := s.tiles.entries[f][i].timer.ms }) ∧
          t = { s with
            time := t.time, faces := t.faces, light := { s.light with channels := t.light.channels }
            tiles := { s.tiles with entries := t.tiles.entries } } ∧
          (∀ n, (Timer.running (n + 1)).ms = .running n) ∧ (Timer.running 0).ms = .running 0 ∧
          Timer.halted.ms = .halted ∧ Timer.stopped.ms = .stopped) ∧
      exec .oneMsEvent s = exec .oneMsEvent (s.afterAll timeCommands) ∧
      (s.afterAll timeCommands).NothingDue ∧ (s.afterAll timeCommands).inReset = false ∧
      (s.afterAll timeCommands).time = { s.time with tickRaised := false } ∧
      (s.NothingDue → s.afterAll timeCommands = s)

/-- DIMMING_TICK (R87, R88, R91 to R97, R100): every configured face that is not DARK takes the least of curve level, curfew cap
and derate cap as target and moves its held level toward it by at most the rate in use, never past it. That it acts where
the Time Base has raised the tick and not yet handed it over is the model's (log 12). -/
def Obligations.DimmingTick : Prop :=
  ∀ (s : State),
    s.inReset = false → s.time.tickRaised = true →
      ∃ t, exec .dimmingTick s = .next t ∧
        t = { s with time := { s.time with tickRaised := false }, faces := t.faces } ∧
        ∀ f : Fin 8,
          let y := s.faces[f]
          let r := s.policy.active.face f
          let c := match s.faceLight f with
            | some l => curveLevel (s.policy.active.curvePoints r.curve) l
            | none => r.loss
          let k := s.curfewCap f
          let d := if y.causes.derate = [] then 4095 else r.derate
          let target := min c (min k d)
          let goal := target * 256
          let rate := if y.level.catchUp then r.fast else if y.level.held < goal then r.rise else r.fall
          let held := if y.mode = .hold then y.level.held
            else if y.level.held < goal then min goal (y.level.held + rate)
            else max goal (y.level.held - rate)
          (s.configured f = false ∨ y.mode = .dark → t.faces[f] = y) ∧
          (s.configured f = true → y.mode ≠ .dark →
            t.faces[f] = { y with
              level := {
                held := held, catchUp := y.level.catchUp && !(y.mode == .run && held == goal)
                light := s.faceLight f, curve := c, cap := k, target := target } } ∧
            target ≤ 4095)

/-- The curve level (R89): the end levels beyond the end points, straight lines rounded down between neighbours, on
the one segment that holds the light. -/
def Obligations.CurveLevel : Prop :=
  ∀ (first last : Nat × Nat) (pts : List (Nat × Nat)) (l : Nat),
    pts.head? = some first → pts.getLast? = some last → pointsOk pts = true →
      (l ≤ first.1 → curveLevel pts l = first.2) ∧ (last.1 ≤ l → curveLevel pts l = last.2) ∧
      (∀ i p q, pts[i]? = some p → pts[i + 1]? = some q → p.1 ≤ l → l < q.1 →
        curveLevel pts l = p.2 + (l - p.1) * (q.2 - p.2) / (q.1 - p.1) ∧
        p.2 ≤ curveLevel pts l ∧ curveLevel pts l ≤ q.2 ∧ (l ≤ 65535 → (l - p.1) * (q.2 - p.2) ≤ 268365825)) ∧
      (first.1 ≤ l → l < last.1 →
        ∃ i p q, pts[i]? = some p ∧ pts[i + 1]? = some q ∧ p.1 ≤ l ∧ l < q.1 ∧
          ∀ j p' q', pts[j]? = some p' → pts[j + 1]? = some q' → p'.1 ≤ l → l < q'.1 → j = i) ∧
      first.2 ≤ curveLevel pts l ∧ curveLevel pts l ≤ last.2

/-- The curfew cap (R71, R72): the unset cap while UNSET; else the cap of the face's used entry with the greatest start at or
before the minute, of the greatest start of all where none is, and 4,095 where the face is in no used entry. -/
def Obligations.CurfewCap : Prop :=
  ∀ (s : State) (f : Fin 8) (e : SchedEntry),
    let es := s.policy.active.entries.filter fun g => g.used && g.faces.getLsbD f.val
    let m := s.time.tod.minute
    (s.time.tod.set = false → s.curfewCap f = s.policy.active.unsetCap) ∧
    (s.time.tod.set = true → es = [] → s.curfewCap f = 4095) ∧
    (s.time.tod.set = true → (es.map (·.start)).Nodup → e ∈ es → e.start ≤ m →
      (∀ g ∈ es, g.start ≤ m → g.start ≤ e.start) → s.curfewCap f = e.cap) ∧
    (s.time.tod.set = true → (es.map (·.start)).Nodup → e ∈ es → (∀ g ∈ es, m < g.start) →
      (∀ g ∈ es, g.start ≤ e.start) → s.curfewCap f = e.cap)

/-- SENSOR_FRAME_ARRIVAL and SENSOR_INCOMPLETE_FRAME (R75 to R81, R83): a good frame's channel, window, counts and records in
their order; a bad frame's counts and its onset at the third in a row; the short-frame count. -/
def Obligations.SensorFrames : Prop :=
  ∀ (s : State) (n0 n1 n2 n3 n4 n5 : Nibble),
    s.inReset = false → s.InboxOk → s.LightOk →
      let sum := n0.toNat + n1.toNat + n2.toNat + n3.toNat + n4.toNat + n5.toNat
      let ch : Fin 4 := Fin.ofNat 4 (n0.toNat / 4)
      let flag := n0.getLsbD 1
      let code := ((n1.toNat * 16 + n2.toNat) * 16 + n3.toNat) * 16 + n4.toNat
      let c := s.light.channels[ch]
      let sat := flag || code == 65535
      let bad := min 65535 (c.bad + 1)
      let row := min 65535 (c.consecBad + 1)
      (sum % 16 = 15 →
        exec (.sensorFrameArrival n0 n1 n2 n3 n4 n5) s =
          .next { s with
            light := { s.light with
              channels := s.light.channels.set ch {
                state := .fresh, heard := true
                window := if c.window.length = 9 then c.window.tail ++ [code] else c.window ++ [code]
                timer := .running s.policy.active.staleTimeout, lastGood := some s.time.stamp, consecBad := 0
                badActive := false, satRun := sat, samples := min 65535 (c.samples + 1), bad := c.bad } }
            inbox := s.inbox
              ++ (if c.state = .stale ∧ c.heard = true then [.record (s.mkRecord .channel ch.val 8 .clear 0)] else [])
              ++ (if c.badActive then [.record (s.mkRecord .channel ch.val 9 .clear c.bad)] else [])
              ++ (if sat = true ∧ c.satRun = false then [.record (s.mkRecord .channel ch.val 10 .occurrence code)]
                else []) }) ∧
      (sum % 16 ≠ 15 →
        exec (.sensorFrameArrival n0 n1 n2 n3 n4 n5) s =
          .next { s with
            light := { s.light with
              channels := s.light.channels.set ch { c with
                bad := bad, consecBad := row, badActive := decide (3 ≤ row) } }
            inbox := s.inbox ++
              if c.badActive = false ∧ 3 ≤ row then [.record (s.mkRecord .channel ch.val 9 .onset bad)] else [] }) ∧
      exec .sensorIncompleteFrame s =
        .next { s with light := { s.light with shortFrames := min 65535 (s.light.shortFrames + 1) } }

/-- The filtered value (R77) is the code at position floor((k - 1) / 2) of the window's k codes sorted ascending. The light of
a face (R84) is the greatest filtered value of the FRESH channels of its sensor mask, or the least under MIN; there is none
where no channel of the mask is FRESH. -/
def Obligations.FilteredValueAndFaceLight : Prop :=
  (∀ (w : List Nat),
    lowerMedian [] = none ∧
    (w ≠ [] → ∃ sorted : List Nat, sorted.Perm w ∧ sorted.Pairwise (· ≤ ·) ∧
      lowerMedian w = sorted[(w.length - 1) / 2]? ∧ (lowerMedian w).isSome = true)) ∧
  ∀ (s : State) (f : Fin 8),
    s.LightOk →
      let r := s.policy.active.face f
      let gives (c : Fin 4) (v : Nat) : Prop :=
        r.sensorMask.getLsbD c.val = true ∧ s.light.channels[c].state = .fresh ∧
          lowerMedian s.light.channels[c].window = some v
      ((∀ c : Fin 4, r.sensorMask.getLsbD c.val = true → s.light.channels[c].state = .stale) ↔ s.faceLight f = none) ∧
      ∀ l ∈ s.faceLight f, (∃ c, gives c l) ∧ ∀ c v, gives c v → if r.combineMin = true then l ≤ v else v ≤ l

/-! ### Timers and tiles -/

/-- STALE_TIMER_EXPIRY, STALL_TIMER_EXPIRY and SILENT_TIMER_EXPIRY (R82, R117, R130, R142), where the timer has counted its last
1 ms event (log 13). That an expiry which is not due changes nothing is the model's (log 5). -/
def Obligations.TimerExpiries : Prop :=
  ∀ (s : State) (ch : Fin 4) (f : Fin 8) (i : Fin 32),
    s.inReset = false → s.InboxOk →
      let c := s.light.channels[ch]
      let y := s.faces[f]
      let e := s.tiles.entries[f][i]
      (c.timer = .running 0 →
        exec (.staleTimerExpiry ch) s =
          .next { s with
            light := { s.light with
              channels := s.light.channels.set ch { c with
                state := .stale, window := [], timer := .stopped, satRun := false } }
            inbox := s.inbox ++ [.record (s.mkRecord .channel ch.val 8 .onset 0)] }) ∧
      (y.scan.timer = .running 0 → y.scan.state = .scanning → s.configured f = true → y.mode ≠ .dark →
        exec (.stallTimerExpiry f) s =
          .next { s with
            faces := s.faces.set f { y with
              scan := { y.scan with state := .stalled, timer := .stopped }
              pixel := { y.pixel with frameOpen := false, count := 0, sumIn := 0, sumOut := 0 } }
            inbox := s.inbox ++ [.record (s.mkRecord .face f.val 1 .onset 0)] }) ∧
      (e.timer = .running 0 →
        exec (.silentTimerExpiry f i) s =
          .next { s with
            tiles := { s.tiles with
              entries := s.tiles.entries.set f (s.tiles.entries[f].set i { e with silent := true, timer := .stopped }) }
            inbox := s.inbox ++ [.record (s.mkRecord .tile (f.val * 32 + i.val) 20 .onset 0)] }) ∧
      (c.timer ≠ .running 0 → exec (.staleTimerExpiry ch) s = .next s) ∧
      (y.scan.timer ≠ .running 0 → exec (.stallTimerExpiry f) s = .next s) ∧
      (e.timer ≠ .running 0 → exec (.silentTimerExpiry f i) s = .next s)

/-- TILE_FRAME_ARRIVAL and TILE_INCOMPLETE_FRAME (R137, R138, R140, R141): a good frame of a configured face updates its entry and
hands over TILE SILENT clear, then one record for each changed member in the order OPEN, SHORT, HOT, SUPPLY. -/
def Obligations.TileFrames : Prop :=
  ∀ (s : State) (b0 b1 b2 b3 b4 : Byte),
    s.inReset = false → s.InboxOk → s.tiles.errors ≤ 65535 → s.tiles.discarded ≤ 65535 →
      let good := decide ((b0.toNat + b1.toNat + b2.toNat + b3.toNat + b4.toNat) % 256 = 255)
      let f : Fin 8 := Fin.ofNat 8 (b0.toNat / 32)
      let i : Fin 32 := Fin.ofNat 32 (b0.toNat % 32)
      let e := s.tiles.entries[f][i]
      let member (k value : Nat) : List Notice :=
        if e.status.getLsbD k = b1.getLsbD k then []
        else [.record (s.mkRecord .tile b0.toNat (16 + k) (if b1.getLsbD k then .onset else .clear) value)]
      let linkError : State := { s with tiles := { s.tiles with errors := min 65535 (s.tiles.errors + 1) } }
      (good = false → exec (.tileFrameArrival b0 b1 b2 b3 b4) s = .next linkError) ∧
      exec .tileIncompleteFrame s = .next linkError ∧
      (good = true → s.configured f = false →
        exec (.tileFrameArrival b0 b1 b2 b3 b4) s =
          .next { s with tiles := { s.tiles with discarded := min 65535 (s.tiles.discarded + 1) } }) ∧
      (good = true → s.configured f = true →
        exec (.tileFrameArrival b0 b1 b2 b3 b4) s =
          .next { s with
            tiles := { s.tiles with
              entries := s.tiles.entries.set f (s.tiles.entries[f].set i {
                heard := true, status := b1.setWidth 4, openCount := b2, temp := b3, silent := false
                timer := .running s.policy.active.silentTimeout }) }
            inbox := s.inbox
              ++ (if e.silent then [.record (s.mkRecord .tile b0.toNat 20 .clear 0)] else [])
              ++ member 0 b2.toNat ++ member 1 0 ++ member 2 b3.toNat ++ member 3 0 })

/-! ### The Constraint Block -/

/-- RECORD (R148, R149, R152, R157, R159): the oldest record handed over is queued unless its action is NONE, dropped and
counted where the queue holds 16, and chosen for at once where the writer is IDLE, as by a CHOICE (log 8); it acts on the
cause sets of its affected faces alone. What waits behind it and is no record is then taken, in order (log 7): a frame
completion of a configured face with the clean-frames parameter, and the end of a stall. -/
def Obligations.RecordTaken : Prop :=
  ∀ (s : State) (r : Record) (told rest : List Notice),
    s.inReset = false → s.inbox = .record r :: (told ++ rest) → (∀ n ∈ told, n.isRecord = false) →
    (∀ n ∈ rest.head?, n.isRecord = true) → s.report.drop ≤ 65535 →
      ∃ t, exec .record s = .next t ∧
        let cls := r.key.toNat % 32
        let src := r.key.toNat / 32 % 256
        let kind := r.key.toNat / 8192
        let act := s.policy.active.action (Fin.ofNat 32 cls)
        let latch := s.policy.active.latch (Fin.ofNat 32 cls)
        let joined : Report :=
          if act = .none then s.report
          else if s.report.queue.length < 16 then { s.report with queue := s.report.queue ++ [r] }
          else { s.report with drop := min 65535 (s.report.drop + 1) }
        t.inbox = rest ∧
        t.report = (State.after { s with report := joined } .choice).report ∧
        (s.report.writer.isSome = true → t.report = joined) ∧
        (∀ f : Fin 8,
          let hit := s.configured f = true ∧
            (kind = 1 ∧ src = f.val ∨ kind = 3 ∧ src / 32 = f.val ∨
              kind = 2 ∧ (s.policy.active.face f).sensorMask.getLsbD src = true)
          let ended (cs : List Cause) : List Cause :=
            cs.map fun c => if c.cls = 1 ∧ c.src = f.val then { c with cond := false } else c
          let tell (c : CauseState) (n : Notice) : CauseState :=
            match n with
            | .record _ => c
            | .completion g =>
              if g = f ∧ s.configured f = true then c.completed s.policy.active.cleanFrames else c
            | .stallEnded g => if g = f then { c with blank := ended c.blank, derate := ended c.derate } else c
          t.faces[f] = { s.faces[f] with
            causes := told.foldl tell
              (if hit then s.faces[f].causes.take cls src r.event act latch else s.faces[f].causes) }) ∧
        t = { s with inbox := t.inbox, report := t.report, faces := t.faces }

/-- What a record does to a face's cause sets (R150, R151), the blank set (`own` true) and the derate set alike: which cause a
strike adds or changes, the conditions that an onset makes true and a clear makes false, and the clean-frame count. -/
def Obligations.CauseRules : Prop :=
  ∀ (c : CauseState) (cls src : Nat) (latch : Bool) (act : Action) (x : Cause) (own : Bool),
    let set (d : CauseState) : List Cause := if own then d.blank else d.derate
    let mine : Action := if own then .blank else .derate
    let hit (y : Cause) : Prop := y.cls = cls ∧ y.src = src
    let present : Prop := ∃ y ∈ c.blank ++ c.derate, hit y
    (x ∈ set (c.take cls src .onset act latch) ↔
      (∃ y ∈ set c, ¬ hit y ∧ x = y) ∨
      (∃ y ∈ set c, hit y ∧ x = { y with cond := true, latch := if act = mine then latch else y.latch }) ∨
      (act = mine ∧ (∀ y ∈ set c, ¬ hit y) ∧ x = { cls := cls, src := src, cond := true, latch := latch })) ∧
    (x ∈ set (c.take cls src .occurrence act latch) ↔
      (∃ y ∈ set c, ¬ hit y ∧ x = y) ∨
      (∃ y ∈ set c, hit y ∧ x = { y with latch := if act = mine then latch else y.latch }) ∨
      (act = mine ∧ (∀ y ∈ set c, ¬ hit y) ∧ x = { cls := cls, src := src, cond := false, latch := latch })) ∧
    (x ∈ set (c.take cls src .clear act latch) ↔
      (∃ y ∈ set c, ¬ hit y ∧ x = y) ∨ ∃ y ∈ set c, hit y ∧ x = { y with cond := false }) ∧
    (c.take cls src .onset act latch).clean = (if act = .blank ∨ act = .derate ∨ present then 0 else c.clean) ∧
    (c.take cls src .occurrence act latch).clean = (if act = .blank ∨ act = .derate then 0 else c.clean) ∧
    (c.take cls src .clear act latch).clean = c.clean ∧
    (act ≠ .blank → act ≠ .derate → c.take cls src .occurrence act latch = c)

/-- A frame completion (R152): the clean-frame count, and the automatic release of the unlatched causes whose condition is
false; and that the Constraint Block applies it to the face that completed a frame, with the clean-frames parameter in
force. -/
def Obligations.FrameCompletions : Prop :=
  (∀ (c : CauseState) (n : Nat),
    c.clean ≤ 255 → n ≤ 255 →
      (c.blank = [] → c.derate = [] → c.completed n = { c with clean := 0 }) ∧
      ((∃ y ∈ c.blank ++ c.derate, y.cond = true) → c.completed n = c) ∧
      (c.blank ++ c.derate ≠ [] → (∀ y ∈ c.blank ++ c.derate, y.cond = false) →
        c.completed n =
          if n ≤ min 255 (c.clean + 1) then
            { blank := c.blank.filter (·.latch), derate := c.derate.filter (·.latch), clean := 0 }
          else { c with clean := c.clean + 1 })) ∧
  ∀ (s : State) (f : Fin 8),
    s.takeCompletion f =
      if s.configured f = true then
        { s with
          faces := s.faces.set f
            { s.faces[f] with causes := s.faces[f].causes.completed (s.policy.active.params[(3 : Fin 7)].toNat % 65536) } }
      else s

/-- What a record carries (R70, R147, 12.5): its key of source kind, source index and class, its event and value, and the
stamp and minute-of-week that the Time Base holds at its event, 0xFFFF while time-of-day is UNSET; and that every record
any command hands over carries those two. -/
def Obligations.RecordContents : Prop :=
  (∀ (s : State) (k : SourceKind) (index cls value : Nat) (e : EventKind),
    index < 256 → cls < 32 → value < 65536 →
      let r := s.mkRecord k index cls e value
      let kind := match k with
        | .face => 1
        | .channel => 2
        | .tile => 3
        | .bus => 4
      r.key.toNat = cls + 32 * index + 8192 * kind ∧ r.event = e ∧ r.value.toNat = value ∧
      r.stamp = s.time.stamp ∧
      r.minute = (if s.time.tod.set then BitVec.ofNat 16 s.time.tod.minute else 0xFFFF#16)) ∧
  ∀ (s t : State) (c : Instr) (r : Record),
    exec c s = .next t → .record r ∈ t.inbox → .record r ∉ s.inbox →
      r.stamp = s.time.stamp ∧
      r.minute = if s.time.tod.set then BitVec.ofNat 16 s.time.tod.minute else 0xFFFF#16

/-- The FAULT line (R155). -/
def Obligations.FaultLine : Prop :=
  ∀ (s : State),
    (s.faultLine = true ↔
      (∃ k : Fin 32, s.report.slots[k].code = .full ∨ s.report.slots[k].code = .overrun) ∨
      (∃ f : Fin 8, s.configured f = true ∧ (s.faces[f].causes.blank ≠ [] ∨ s.faces[f].causes.derate ≠ [])) ∨
      s.tracker.mode.source = .unknown ∨ ∀ f : Fin 8, s.configured f = false) ∧
    (s.inReset = true → s.HeldOk → s.faultLine = true)

/-! ### The Report Block -/

/-- CHOICE and WRITE_END (R159, R160): the slot a record takes, or its drop for want of one; what the write end makes of the
slot; and the next choice at the same event. RECORD and WRITE_END make the choice that is called for within their own step,
so a CHOICE finds one to make only in a state that a run does not reach (log 8); that a WRITE_END with the writer IDLE
changes nothing is log 5. -/
def Obligations.SlotWriter : Prop :=
  ∀ (s : State) (r : Record) (rest : List Record) (k : Fin 32),
    s.inReset = false →
      let p := s.report
      let candidate (j : Fin 32) : Prop :=
        (∀ n : Fin 16, p.slots[j].filterMask.getLsbD n.val = true →
          r.key.getLsbD n.val = p.slots[j].filterKey.getLsbD n.val) ∧
        p.slots[j].code ≠ .inactive ∧ p.slots[j].code ≠ .busy ∧ p.lock ≠ some j
      let best : Prop := candidate k ∧
        (p.slots[k].code = .empty ∧ (∀ j : Fin 32, j < k → candidate j → p.slots[j].code ≠ .empty) ∨
          (∀ j : Fin 32, candidate j → p.slots[j].code ≠ .empty) ∧ ∀ j : Fin 32, k < j → ¬ candidate j)
      (p.writer = none → p.queue = r :: rest → best →
        exec .choice s =
          .next { s with
            report := { p with
              queue := rest, writer := some (r, k)
              slots := p.slots.set k { p.slots[k] with
                code := .busy, former := some { code := p.slots[k].code, overwrites := p.slots[k].overwrites }
                record := none, overwrites := 0 } } }) ∧
      (p.writer = none → p.queue = r :: rest → (∀ j : Fin 32, ¬ candidate j) → p.drop ≤ 65535 →
        exec .choice s =
          exec .choice { s with report := { p with queue := rest, drop := min 65535 (p.drop + 1) } }) ∧
      (p.writer.isSome = true ∨ p.queue = [] → p.Ok → exec .choice s = .next s) ∧
      (∀ g ∈ p.slots[k].former, p.writer = some (r, k) → p.Ok →
        let written : State := { s with
          report := { p with
            writer := none
            slots := p.slots.set k { p.slots[k] with
              code := if g.code = .empty then .full else .overrun
              former := none, record := some r
              overwrites := if g.code = .empty then 0 else min 255 (g.overwrites + 1) } } }
        exec .writeEnd s = exec .choice written ∧ (p.queue = [] → exec .writeEnd s = .next written)) ∧
      (p.writer = none → exec .writeEnd s = .next s)

/-- ACKNOWLEDGMENT, SLOT_INACTIVE and FILTER_WRITE (R161, R162): a whole header write empties or deactivates a slot that is not
BUSY and ends its lock; a filter write takes its unmasked lanes only while INACTIVE; else the beat is discarded. -/
def Obligations.HostSlotWrites : Prop :=
  ∀ (s : State) (k : Fin 32) (data : Word) (m : Mask),
    s.takesBus = true →
      let p := s.report
      let x := p.slots[k]
      let s' (w : Word) : State := { s with bus := { s.bus with toStore := some (w, m) } }
      let emptied (c : SlotCode) : Report :=
        { p with
          slots := p.slots.set k { x with code := c, record := none, overwrites := 0 }
          lock := if p.lock = some k then none else p.lock }
      (m = 0#4 → x.code ≠ .busy → x.code ≠ .empty →
        exec (.acknowledgment k m) s = .next { s' 1#32 with report := emptied .empty }) ∧
      (m = 0#4 → x.code ≠ .busy →
        exec (.slotInactive k m) s = .next { s' 0#32 with report := emptied .inactive }) ∧
      (m ≠ 0#4 ∨ x.code = .busy →
        exec (.acknowledgment k m) s = .next (s' 1#32) ∧ exec (.slotInactive k m) s = .next (s' 0#32)) ∧
      (x.code = .empty → exec (.acknowledgment k m) s = .next (s' 1#32)) ∧
      (x.code ≠ .inactive → exec (.filterWrite k data m) s = .next (s' data)) ∧
      (x.code = .inactive →
        ∃ y, exec (.filterWrite k data m) s =
            .next { s' data with
              report := { p with
                slots := p.slots.set k { x with filterKey := y.filterKey, filterMask := y.filterMask } } } ∧
          ∀ n : Fin 16,
            y.filterKey.getLsbD n.val =
              (if m.getLsbD (n.val / 8) then x.filterKey.getLsbD n.val else data.getLsbD n.val) ∧
            (y : Slot).filterMask.getLsbD n.val =
              if m.getLsbD (2 + n.val / 8) then x.filterMask.getLsbD n.val else data.getLsbD (16 + n.val))

/-- HEADER_READ and STAMP_WORD_READ (R163, R65): what the two reads answer and what they do to the lock; and the words of a
slot as they read, by its code (R164, R165), with the codes of 11.2 and 12.6; words 5..7 are reserved and read 0 (R170). -/
def Obligations.LockReadsAndSlotWords : Prop :=
  ∀ (s : State) (k : Fin 32) (w : Nat),
    (s.takesBus = true →
      exec (.headerRead k) s =
        .next { s with
          report := { s.report with
            lock := if s.report.slots[k].code = .full ∨ s.report.slots[k].code = .overrun then some k else none }
          bus := { s.bus with toController := some (s.reportRead (1032 + 8 * k.val)) } } ∧
      exec .stampWordRead s =
        .next { s with
          report := { s.report with lock := none }, bus := { s.bus with toController := some s.time.stamp } }) ∧
    (s.report.slots[k].Ok →
      let x := s.report.slots[k]
      let word (j : Nat) := s.reportRead (1032 + 8 * k.val + j)
      let code := match x.code with
        | .inactive => 0
        | .empty => 1
        | .full => 2
        | .overrun => 3
        | .busy => 4
      let event (r : Record) := match r.event with
        | .onset => 1
        | .clear => 2
        | .occurrence => 3
      word 0 = BitVec.ofNat 32 (code + (if x.code = .overrun then x.overwrites else 0) * 256) ∧
      word 1 = (if x.code = .busy then 0#32
        else BitVec.ofNat 32 (x.filterKey.toNat + x.filterMask.toNat * 65536)) ∧
      (x.code = .inactive ∨ x.code = .empty ∨ x.code = .busy → 2 ≤ w → w < 8 → word w = 0#32) ∧
      (5 ≤ w → w < 8 → word w = 0#32) ∧
      (x.code = .full ∨ x.code = .overrun → ∃ r ∈ x.record,
        word 2 = BitVec.ofNat 32 (r.key.toNat + event r * 65536) ∧
        word 3 = BitVec.ofNat 32 (r.value.toNat + r.minute.toNat * 65536) ∧ word 4 = r.stamp))

/-- The report page's chain of items (R164, R165, R170): the offset of each item in its own item word and its
predecessor's, in face and channel order, and zeros outside the chain and the slots. -/
def Obligations.ReportPageChain : Prop :=
  ∀ (s : State) (i : Fin 8) (c : Fin 4) (f : Fin 8) (off : Nat),
    let fs := (List.finRange 8).filter fun g => s.configured g
    let chans := 32 + 48 * fs.length
    s.reportRead 0 = 0x00200001#32 ∧ s.reportRead 1 = s.time.stamp ∧ s.reportRead 2 = 0x004208C0#32 ∧
    (fs[i.val]? = some f →
      s.reportRead (32 + 48 * i.val) = BitVec.ofNat 32 (2 + (80 + 48 * i.val) * 65536) ∧
      (s.reportRead (33 + 48 * i.val)).toNat % 8 = f.val ∧
      s.reportRead (39 + 48 * i.val) = s.faces[f].pixel.frames) ∧
    s.reportRead (chans + 16 * c.val) =
      BitVec.ofNat 32 (3 + (if c.val = 3 then 1024 else chans + 16 * (c.val + 1)) * 65536) ∧
    (s.reportRead (chans + 16 * c.val + 1)).toNat % 4 = c.val ∧
    s.reportRead (chans + 16 * c.val + 5) = s.light.channels[c].lastGood.getD 0#32 ∧
    s.reportRead 1024 = 4#32 ∧
    ((chans + 64 ≤ off ∧ off < 1024) ∨ (1024 < off ∧ off < 1032) ∨ 1288 ≤ off → s.reportRead off = 0#32)

/-- The words of the header item, of a configured face's item and of a channel's item (R145, R166, R170, 12.6), each at its
offset in the chain of `ReportPageChain`, as the state stands at the read. -/
def Obligations.ItemWords : Prop :=
  ∀ (s : State) (p : Straps) (i : Fin 8) (f : Fin 8) (ch : Fin 4) (w : Nat),
    s.straps = some p → s.FacesOk → s.LightOk → s.TilesOk → s.PolicyOk → s.TimeOk → s.tracker.Ok → s.report.Ok →
    s.policy.refused ≤ 255 → s.policy.status.lost ≤ 255 →
      let fs := (List.finRange 8).filter fun g => s.configured g
      let head (k : Nat) : Word := s.reportRead k
      let face (k : Nat) : Word := s.reportRead (32 + 48 * i.val + k)
      let chan (k : Nat) : Word := s.reportRead (32 + 48 * fs.length + 16 * ch.val + k)
      let y := s.faces[f]
      let c := s.light.channels[ch]
      let word (n : Nat) : Word := BitVec.ofNat 32 n
      let st := s.policy.status
      let codes (cs : List Cause) : List Nat := (List.range 32).filter fun k => cs.any fun x => x.cls == k
      let codeWord (cs : List Cause) (j : Nat) : Word :=
        word ((codes cs).getD (4 * j) 0 + (codes cs).getD (4 * j + 1) 0 * 256 + (codes cs).getD (4 * j + 2) 0 * 65536
          + (codes cs).getD (4 * j + 3) 0 * 16777216)
      let tiles := s.tiles.entries[f].toList
      let live := tiles.filter fun e => e.heard && !e.silent
      let tops (n : Nat) (g : TileEntry → Byte) : Prop :=
        (∀ e ∈ live, (g e).toNat ≤ n) ∧ (n = 0 ∨ ∃ e ∈ live, (g e).toNat = n)
      (head 3 = word (p.svc.toNat + p.map.toNat * 4 + p.fb.toNat * 16 + p.clk.toNat * 64) ∧
        head 4 = s.policyRead 0 ∧
        head 5 = s.policyRead 1 + (if s.tracker.mode.source = .unknown then 0#32 else 65536#32) ∧
        head 6 = word ((if fs = [] then 0 else 1) + (fs.map fun g => 256 * 2 ^ g.val).sum) ∧
        head 7 = word (st.seq.toNat + st.lost * 16777216
          + (match st.state with
            | .idle => 0
            | .inFlight => 256
            | .accepted => 512
            | .rejected => 768)
          + match st.failure with
            | none => 0
            | some (r, x) =>
              (match r with
              | .faceGeometry => 1
              | .faceOverlap => 2
              | .faceInService => 3
              | .faceCurveUnused => 4
              | .rateZero => 5
              | .curveCount => 6
              | .curveOrder => 7
              | .scheduleRange => 8
              | .scheduleDuplicate => 9
              | .trimRange => 10
              | .actionCode => 11
              | .parameterRange => 12) * 4096
              + (match x with
              | .F => 1
              | .C => 2
              | .S => 3
              | .Z => 4
              | .A => 5
              | .G => 6) * 65536) ∧
        head 8 = word (s.policy.refused + if s.report.restartPending then 65536 else 0) ∧
        head 9 = word (s.report.drop + s.report.queue.length * 65536 + s.tracker.queue.length * 16777216) ∧
        head 10 = word s.light.shortFrames ∧
        head 11 = word (s.tiles.errors + s.tiles.discarded * 65536) ∧
        (12 ≤ w → w < 32 → head w = 0#32)) ∧
      (fs[i.val]? = some f →
        face 1 = word (f.val
          + (match y.mode with
            | .run => 256
            | .hold => 512
            | .blank => 768
            | .dark => 1024)
          + (if y.level.catchUp then 2048 else 0)
          + (match y.scan.state with
            | .noSignal => 0
            | .scanning => 65536
            | .stalled => 131072)
          + if y.scan.displayed = .B then 1048576 else 0) ∧
        face 2 = (match y.level.light with
          | none => 65536#32
          | some l => word l) ∧
        face 3 = word (y.level.curve + y.level.cap * 65536) ∧
        face 4 = word (y.level.target + y.level.held / 256 * 65536) ∧
        face 5 = word (y.pixel.factor + y.pixel.aplFactor * 65536) ∧
        face 6 = word (y.pixel.aplIn + y.pixel.aplOut * 65536) ∧
        face 7 = y.pixel.frames ∧
        face 8 = word (y.scan.liveWrites + y.causes.clean * 65536) ∧
        face 9 = word (codes y.causes.blank).length ∧
        (∀ j : Fin 3, face (10 + j.val) = codeWord y.causes.blank j.val) ∧
        face 13 = word (codes y.causes.derate).length ∧
        (∀ j : Fin 3, face (14 + j.val) = codeWord y.causes.derate j.val) ∧
        (face 17).toNat % 256 = (tiles.filter (·.heard)).length ∧
        (face 17).toNat / 256 % 256 = (tiles.filter (·.silent)).length ∧
        tops ((face 17).toNat / 65536 % 256) TileEntry.temp ∧ tops ((face 17).toNat / 16777216) TileEntry.openCount ∧
        (18 ≤ w → w < 48 → face w = 0#32)) ∧
      (chan 1 = word (ch.val + (if c.state = .fresh then 16 else 0) + (if c.satRun then 32 else 0)
          + c.window.length * 256) ∧
        chan 2 = word ((lowerMedian c.window).getD 0) ∧
        chan 3 = word (c.samples + c.bad * 65536) ∧ chan 4 = word c.consecBad ∧
        chan 5 = c.lastGood.getD 0#32 ∧ (6 ≤ w → w < 16 → chan w = 0#32))

/-- The Report Block (R157, R158, R159, R163): at most 16 records queued and none with the writer IDLE, a slot holds a record
exactly when FULL or OVERRUN, the BUSY slot is the writer's, a locked slot holds a record; and a slot that stays locked keeps
its record. -/
def Obligations.StepKeepsTheReportBlock : Prop :=
  ∀ (s t : State),
    s.report.Ok → step s = .next t →
      t.report.Ok ∧
      ∀ k : Fin 32, s.report.lock = some k → t.report.lock = some k → t.report.slots[k].record = s.report.slots[k].record

/-! ### The whole machine -/

/-- The monitors (5.2, 6.1, 7.1, 8.1, 9.2, 10.3): every channel and tile in one of its situations, held levels, published
values and APLs in range (R114), a frame OPEN exactly while its face is SCANNING, and then at most the height of lines seen
(R127), cause sets of face classes without repeats, time in range. That the monitor of a face which is
not configured stands in NO SIGNAL is the model's reading (log 16). -/
def Obligations.StepKeepsTheMonitors : Prop :=
  ∀ (s t : State),
    s.PolicyOk → s.TimeOk → s.LightOk → s.TilesOk → s.FacesOk → step s = .next t →
      t.TimeOk ∧ t.LightOk ∧ t.TilesOk ∧ t.FacesOk

/-- Only the named events change these: the stamp, prescaler and tick phase at the 1 ms event and reset (R64, R65, R69); the
strap image at reset (R23); the active and region tables at a switch and reset (R27, R59); a frame factor at a read return, a
switch and reset (R116); a held level at a tick, a switch, an entry to DARK, which makes it 0, and reset (R94, R98). A 1 ms
event takes the tick that is still raised first (log 12). -/
def Obligations.OnlyTheNamedEventsChange : Prop :=
  ∀ (s t : State) (c : Instr),
    exec c s = .next t → isReset c = false →
      t.straps = s.straps ∧ t.inReset = s.inReset ∧
      (c ≠ .oneMsEvent → t.time.stamp = s.time.stamp ∧ t.time.prescaler = s.time.prescaler ∧
        t.time.phase = s.time.phase) ∧
      (c ≠ .switch → t.policy.active = s.policy.active ∧ t.regions = s.regions) ∧
      (c ≠ .switch → (∀ d m b, c ≠ .readBeatReturn d m b) →
        ∀ f : Fin 8, t.faces[f].pixel.factor = s.faces[f].pixel.factor) ∧
      (c ≠ .switch → c ≠ .dimmingTick → c ≠ .oneMsEvent ∨ s.time.tickRaised = false →
        ∀ f : Fin 8, t.faces[f].level.held = s.faces[f].level.held ∨
          (t.faces[f].level.held = 0 ∧ s.faces[f].mode ≠ .dark ∧ t.faces[f].mode = .dark))
end

