-- ==== Sys2Proof/Laws/State.lean ====
section
/-! SUPPORT. Laws/State.lean: what each update of State leaves and changes, field by field, each true by rfl; so
that no later proof unfolds a record update. -/

namespace Sys2Proof.Machine

/-- An entry of a table built by its index. -/
@[simp] theorem tabulate_getElem {α : Type} {n : Nat} (f : Fin n → α) (i : Nat) (h : i < n) : (tabulate f)[i] = f ⟨i, h⟩ := by
  simp [tabulate]

/-- The same, by a Fin index. -/
@[simp] theorem tabulate_get {α : Type} {n : Nat} (f : Fin n → α) (i : Fin n) : (tabulate f)[i] = f i := by
  simp [tabulate]

/-! ### setTracker -/

@[simp] theorem State.setTracker_inReset (s : State) (t : Tracker) : (s.setTracker t).inReset = s.inReset := rfl
@[simp] theorem State.setTracker_straps (s : State) (t : Tracker) : (s.setTracker t).straps = s.straps := rfl
@[simp] theorem State.setTracker_tracker (s : State) (t : Tracker) : (s.setTracker t).tracker = t := rfl
@[simp] theorem State.setTracker_regions (s : State) (t : Tracker) : (s.setTracker t).regions = s.regions := rfl
@[simp] theorem State.setTracker_policy (s : State) (t : Tracker) : (s.setTracker t).policy = s.policy := rfl
@[simp] theorem State.setTracker_time (s : State) (t : Tracker) : (s.setTracker t).time = s.time := rfl
@[simp] theorem State.setTracker_light (s : State) (t : Tracker) : (s.setTracker t).light = s.light := rfl
@[simp] theorem State.setTracker_faces (s : State) (t : Tracker) : (s.setTracker t).faces = s.faces := rfl
@[simp] theorem State.setTracker_tiles (s : State) (t : Tracker) : (s.setTracker t).tiles = s.tiles := rfl
@[simp] theorem State.setTracker_inbox (s : State) (t : Tracker) : (s.setTracker t).inbox = s.inbox := rfl
@[simp] theorem State.setTracker_report (s : State) (t : Tracker) : (s.setTracker t).report = s.report := rfl
@[simp] theorem State.setTracker_bus (s : State) (t : Tracker) : (s.setTracker t).bus = s.bus := rfl
@[simp] theorem State.setTracker_choices (s : State) (t : Tracker) : (s.setTracker t).choices = s.choices := rfl
@[simp] theorem State.setTracker_pending (s : State) (t : Tracker) : (s.setTracker t).pending = s.pending := rfl

/-! ### setStore -/

@[simp] theorem State.setStore_inReset (s : State) (x : StoreState) : (s.setStore x).inReset = s.inReset := rfl
@[simp] theorem State.setStore_straps (s : State) (x : StoreState) : (s.setStore x).straps = s.straps := rfl
@[simp] theorem State.setStore_tracker (s : State) (x : StoreState) :
    (s.setStore x).tracker = { s.tracker with store := x } := rfl
@[simp] theorem State.setStore_regions (s : State) (x : StoreState) : (s.setStore x).regions = s.regions := rfl
@[simp] theorem State.setStore_policy (s : State) (x : StoreState) : (s.setStore x).policy = s.policy := rfl
@[simp] theorem State.setStore_time (s : State) (x : StoreState) : (s.setStore x).time = s.time := rfl
@[simp] theorem State.setStore_light (s : State) (x : StoreState) : (s.setStore x).light = s.light := rfl
@[simp] theorem State.setStore_faces (s : State) (x : StoreState) : (s.setStore x).faces = s.faces := rfl
@[simp] theorem State.setStore_tiles (s : State) (x : StoreState) : (s.setStore x).tiles = s.tiles := rfl
@[simp] theorem State.setStore_inbox (s : State) (x : StoreState) : (s.setStore x).inbox = s.inbox := rfl
@[simp] theorem State.setStore_report (s : State) (x : StoreState) : (s.setStore x).report = s.report := rfl
@[simp] theorem State.setStore_bus (s : State) (x : StoreState) : (s.setStore x).bus = s.bus := rfl
@[simp] theorem State.setStore_choices (s : State) (x : StoreState) : (s.setStore x).choices = s.choices := rfl
@[simp] theorem State.setStore_pending (s : State) (x : StoreState) : (s.setStore x).pending = s.pending := rfl

/-! ### driveStore -/

@[simp] theorem State.driveStore_inReset (s : State) (d : Word) (m : Mask) :
    (s.driveStore d m).inReset = s.inReset := rfl
@[simp] theorem State.driveStore_straps (s : State) (d : Word) (m : Mask) : (s.driveStore d m).straps = s.straps := rfl
@[simp] theorem State.driveStore_tracker (s : State) (d : Word) (m : Mask) :
    (s.driveStore d m).tracker = s.tracker := rfl
@[simp] theorem State.driveStore_regions (s : State) (d : Word) (m : Mask) :
    (s.driveStore d m).regions = s.regions := rfl
@[simp] theorem State.driveStore_policy (s : State) (d : Word) (m : Mask) : (s.driveStore d m).policy = s.policy := rfl
@[simp] theorem State.driveStore_time (s : State) (d : Word) (m : Mask) : (s.driveStore d m).time = s.time := rfl
@[simp] theorem State.driveStore_light (s : State) (d : Word) (m : Mask) : (s.driveStore d m).light = s.light := rfl
@[simp] theorem State.driveStore_faces (s : State) (d : Word) (m : Mask) : (s.driveStore d m).faces = s.faces := rfl
@[simp] theorem State.driveStore_tiles (s : State) (d : Word) (m : Mask) : (s.driveStore d m).tiles = s.tiles := rfl
@[simp] theorem State.driveStore_inbox (s : State) (d : Word) (m : Mask) : (s.driveStore d m).inbox = s.inbox := rfl
@[simp] theorem State.driveStore_report (s : State) (d : Word) (m : Mask) : (s.driveStore d m).report = s.report := rfl
@[simp] theorem State.driveStore_bus (s : State) (d : Word) (m : Mask) :
    (s.driveStore d m).bus = { s.bus with toStore := some (d, m) } := rfl
@[simp] theorem State.driveStore_choices (s : State) (d : Word) (m : Mask) :
    (s.driveStore d m).choices = s.choices := rfl
@[simp] theorem State.driveStore_pending (s : State) (d : Word) (m : Mask) :
    (s.driveStore d m).pending = s.pending := rfl

/-! ### driveCommand -/

@[simp] theorem State.driveCommand_inReset (s : State) (c : BusCommand) : (s.driveCommand c).inReset = s.inReset := rfl
@[simp] theorem State.driveCommand_straps (s : State) (c : BusCommand) : (s.driveCommand c).straps = s.straps := rfl
@[simp] theorem State.driveCommand_tracker (s : State) (c : BusCommand) : (s.driveCommand c).tracker = s.tracker := rfl
@[simp] theorem State.driveCommand_regions (s : State) (c : BusCommand) : (s.driveCommand c).regions = s.regions := rfl
@[simp] theorem State.driveCommand_policy (s : State) (c : BusCommand) : (s.driveCommand c).policy = s.policy := rfl
@[simp] theorem State.driveCommand_time (s : State) (c : BusCommand) : (s.driveCommand c).time = s.time := rfl
@[simp] theorem State.driveCommand_light (s : State) (c : BusCommand) : (s.driveCommand c).light = s.light := rfl
@[simp] theorem State.driveCommand_faces (s : State) (c : BusCommand) : (s.driveCommand c).faces = s.faces := rfl
@[simp] theorem State.driveCommand_tiles (s : State) (c : BusCommand) : (s.driveCommand c).tiles = s.tiles := rfl
@[simp] theorem State.driveCommand_inbox (s : State) (c : BusCommand) : (s.driveCommand c).inbox = s.inbox := rfl
@[simp] theorem State.driveCommand_report (s : State) (c : BusCommand) : (s.driveCommand c).report = s.report := rfl
@[simp] theorem State.driveCommand_bus (s : State) (c : BusCommand) :
    (s.driveCommand c).bus = { s.bus with command := c } := rfl
@[simp] theorem State.driveCommand_choices (s : State) (c : BusCommand) : (s.driveCommand c).choices = s.choices := rfl
@[simp] theorem State.driveCommand_pending (s : State) (c : BusCommand) : (s.driveCommand c).pending = s.pending := rfl

/-! ### deliver -/

@[simp] theorem State.deliver_inReset (s : State) (w : Word) : (s.deliver w).inReset = s.inReset := rfl
@[simp] theorem State.deliver_straps (s : State) (w : Word) : (s.deliver w).straps = s.straps := rfl
@[simp] theorem State.deliver_tracker (s : State) (w : Word) : (s.deliver w).tracker = s.tracker := rfl
@[simp] theorem State.deliver_regions (s : State) (w : Word) : (s.deliver w).regions = s.regions := rfl
@[simp] theorem State.deliver_policy (s : State) (w : Word) : (s.deliver w).policy = s.policy := rfl
@[simp] theorem State.deliver_time (s : State) (w : Word) : (s.deliver w).time = s.time := rfl
@[simp] theorem State.deliver_light (s : State) (w : Word) : (s.deliver w).light = s.light := rfl
@[simp] theorem State.deliver_faces (s : State) (w : Word) : (s.deliver w).faces = s.faces := rfl
@[simp] theorem State.deliver_tiles (s : State) (w : Word) : (s.deliver w).tiles = s.tiles := rfl
@[simp] theorem State.deliver_inbox (s : State) (w : Word) : (s.deliver w).inbox = s.inbox := rfl
@[simp] theorem State.deliver_report (s : State) (w : Word) : (s.deliver w).report = s.report := rfl
@[simp] theorem State.deliver_bus (s : State) (w : Word) :
    (s.deliver w).bus = { s.bus with toController := some w } := rfl
@[simp] theorem State.deliver_choices (s : State) (w : Word) : (s.deliver w).choices = s.choices := rfl
@[simp] theorem State.deliver_pending (s : State) (w : Word) : (s.deliver w).pending = s.pending := rfl

/-! ### setChannel -/

@[simp] theorem State.setChannel_inReset (s : State) (c : Fin 4) (x : Channel) :
    (s.setChannel c x).inReset = s.inReset := rfl
@[simp] theorem State.setChannel_straps (s : State) (c : Fin 4) (x : Channel) :
    (s.setChannel c x).straps = s.straps := rfl
@[simp] theorem State.setChannel_tracker (s : State) (c : Fin 4) (x : Channel) :
    (s.setChannel c x).tracker = s.tracker := rfl
@[simp] theorem State.setChannel_regions (s : State) (c : Fin 4) (x : Channel) :
    (s.setChannel c x).regions = s.regions := rfl
@[simp] theorem State.setChannel_policy (s : State) (c : Fin 4) (x : Channel) :
    (s.setChannel c x).policy = s.policy := rfl
@[simp] theorem State.setChannel_time (s : State) (c : Fin 4) (x : Channel) : (s.setChannel c x).time = s.time := rfl
@[simp] theorem State.setChannel_light (s : State) (c : Fin 4) (x : Channel) :
    (s.setChannel c x).light = { s.light with channels := s.light.channels.set c x } := rfl
@[simp] theorem State.setChannel_faces (s : State) (c : Fin 4) (x : Channel) : (s.setChannel c x).faces = s.faces := rfl
@[simp] theorem State.setChannel_tiles (s : State) (c : Fin 4) (x : Channel) : (s.setChannel c x).tiles = s.tiles := rfl
@[simp] theorem State.setChannel_inbox (s : State) (c : Fin 4) (x : Channel) : (s.setChannel c x).inbox = s.inbox := rfl
@[simp] theorem State.setChannel_report (s : State) (c : Fin 4) (x : Channel) :
    (s.setChannel c x).report = s.report := rfl
@[simp] theorem State.setChannel_bus (s : State) (c : Fin 4) (x : Channel) : (s.setChannel c x).bus = s.bus := rfl
@[simp] theorem State.setChannel_choices (s : State) (c : Fin 4) (x : Channel) :
    (s.setChannel c x).choices = s.choices := rfl
@[simp] theorem State.setChannel_pending (s : State) (c : Fin 4) (x : Channel) :
    (s.setChannel c x).pending = s.pending := rfl

/-! ### setTile -/

@[simp] theorem State.setTile_inReset (s : State) (f : Fin 8) (i : Fin 32) (x : TileEntry) :
    (s.setTile f i x).inReset = s.inReset := rfl
@[simp] theorem State.setTile_straps (s : State) (f : Fin 8) (i : Fin 32) (x : TileEntry) :
    (s.setTile f i x).straps = s.straps := rfl
@[simp] theorem State.setTile_tracker (s : State) (f : Fin 8) (i : Fin 32) (x : TileEntry) :
    (s.setTile f i x).tracker = s.tracker := rfl
@[simp] theorem State.setTile_regions (s : State) (f : Fin 8) (i : Fin 32) (x : TileEntry) :
    (s.setTile f i x).regions = s.regions := rfl
@[simp] theorem State.setTile_policy (s : State) (f : Fin 8) (i : Fin 32) (x : TileEntry) :
    (s.setTile f i x).policy = s.policy := rfl
@[simp] theorem State.setTile_time (s : State) (f : Fin 8) (i : Fin 32) (x : TileEntry) :
    (s.setTile f i x).time = s.time := rfl
@[simp] theorem State.setTile_light (s : State) (f : Fin 8) (i : Fin 32) (x : TileEntry) :
    (s.setTile f i x).light = s.light := rfl
@[simp] theorem State.setTile_faces (s : State) (f : Fin 8) (i : Fin 32) (x : TileEntry) :
    (s.setTile f i x).faces = s.faces := rfl
@[simp] theorem State.setTile_tiles (s : State) (f : Fin 8) (i : Fin 32) (x : TileEntry) :
    (s.setTile f i x).tiles = { s.tiles with entries := s.tiles.entries.set f (s.tiles.entries[f].set i x) } := rfl
@[simp] theorem State.setTile_inbox (s : State) (f : Fin 8) (i : Fin 32) (x : TileEntry) :
    (s.setTile f i x).inbox = s.inbox := rfl
@[simp] theorem State.setTile_report (s : State) (f : Fin 8) (i : Fin 32) (x : TileEntry) :
    (s.setTile f i x).report = s.report := rfl
@[simp] theorem State.setTile_bus (s : State) (f : Fin 8) (i : Fin 32) (x : TileEntry) :
    (s.setTile f i x).bus = s.bus := rfl
@[simp] theorem State.setTile_choices (s : State) (f : Fin 8) (i : Fin 32) (x : TileEntry) :
    (s.setTile f i x).choices = s.choices := rfl
@[simp] theorem State.setTile_pending (s : State) (f : Fin 8) (i : Fin 32) (x : TileEntry) :
    (s.setTile f i x).pending = s.pending := rfl

/-! ### modReport -/

@[simp] theorem State.modReport_inReset (s : State) (g : Report → Report) : (s.modReport g).inReset = s.inReset := rfl
@[simp] theorem State.modReport_straps (s : State) (g : Report → Report) : (s.modReport g).straps = s.straps := rfl
@[simp] theorem State.modReport_tracker (s : State) (g : Report → Report) : (s.modReport g).tracker = s.tracker := rfl
@[simp] theorem State.modReport_regions (s : State) (g : Report → Report) : (s.modReport g).regions = s.regions := rfl
@[simp] theorem State.modReport_policy (s : State) (g : Report → Report) : (s.modReport g).policy = s.policy := rfl
@[simp] theorem State.modReport_time (s : State) (g : Report → Report) : (s.modReport g).time = s.time := rfl
@[simp] theorem State.modReport_light (s : State) (g : Report → Report) : (s.modReport g).light = s.light := rfl
@[simp] theorem State.modReport_faces (s : State) (g : Report → Report) : (s.modReport g).faces = s.faces := rfl
@[simp] theorem State.modReport_tiles (s : State) (g : Report → Report) : (s.modReport g).tiles = s.tiles := rfl
@[simp] theorem State.modReport_inbox (s : State) (g : Report → Report) : (s.modReport g).inbox = s.inbox := rfl
@[simp] theorem State.modReport_report (s : State) (g : Report → Report) : (s.modReport g).report = g s.report := rfl
@[simp] theorem State.modReport_bus (s : State) (g : Report → Report) : (s.modReport g).bus = s.bus := rfl
@[simp] theorem State.modReport_choices (s : State) (g : Report → Report) : (s.modReport g).choices = s.choices := rfl
@[simp] theorem State.modReport_pending (s : State) (g : Report → Report) : (s.modReport g).pending = s.pending := rfl

/-! ### modFace -/

@[simp] theorem State.modFace_inReset (s : State) (f : Fin 8) (g : FaceState → FaceState) :
    (s.modFace f g).inReset = s.inReset := rfl
@[simp] theorem State.modFace_straps (s : State) (f : Fin 8) (g : FaceState → FaceState) :
    (s.modFace f g).straps = s.straps := rfl
@[simp] theorem State.modFace_tracker (s : State) (f : Fin 8) (g : FaceState → FaceState) :
    (s.modFace f g).tracker = s.tracker := rfl
@[simp] theorem State.modFace_regions (s : State) (f : Fin 8) (g : FaceState → FaceState) :
    (s.modFace f g).regions = s.regions := rfl
@[simp] theorem State.modFace_policy (s : State) (f : Fin 8) (g : FaceState → FaceState) :
    (s.modFace f g).policy = s.policy := rfl
@[simp] theorem State.modFace_time (s : State) (f : Fin 8) (g : FaceState → FaceState) :
    (s.modFace f g).time = s.time := rfl
@[simp] theorem State.modFace_light (s : State) (f : Fin 8) (g : FaceState → FaceState) :
    (s.modFace f g).light = s.light := rfl
@[simp] theorem State.modFace_faces (s : State) (f : Fin 8) (g : FaceState → FaceState) :
    (s.modFace f g).faces = s.faces.set f (g s.faces[f]) := rfl
@[simp] theorem State.modFace_tiles (s : State) (f : Fin 8) (g : FaceState → FaceState) :
    (s.modFace f g).tiles = s.tiles := rfl
@[simp] theorem State.modFace_inbox (s : State) (f : Fin 8) (g : FaceState → FaceState) :
    (s.modFace f g).inbox = s.inbox := rfl
@[simp] theorem State.modFace_report (s : State) (f : Fin 8) (g : FaceState → FaceState) :
    (s.modFace f g).report = s.report := rfl
@[simp] theorem State.modFace_bus (s : State) (f : Fin 8) (g : FaceState → FaceState) :
    (s.modFace f g).bus = s.bus := rfl
@[simp] theorem State.modFace_choices (s : State) (f : Fin 8) (g : FaceState → FaceState) :
    (s.modFace f g).choices = s.choices := rfl
@[simp] theorem State.modFace_pending (s : State) (f : Fin 8) (g : FaceState → FaceState) :
    (s.modFace f g).pending = s.pending := rfl

/-! ### mapFaces -/

@[simp] theorem State.mapFaces_inReset (s : State) (g : Fin 8 → FaceState → FaceState) :
    (s.mapFaces g).inReset = s.inReset := rfl
@[simp] theorem State.mapFaces_straps (s : State) (g : Fin 8 → FaceState → FaceState) :
    (s.mapFaces g).straps = s.straps := rfl
@[simp] theorem State.mapFaces_tracker (s : State) (g : Fin 8 → FaceState → FaceState) :
    (s.mapFaces g).tracker = s.tracker := rfl
@[simp] theorem State.mapFaces_regions (s : State) (g : Fin 8 → FaceState → FaceState) :
    (s.mapFaces g).regions = s.regions := rfl
@[simp] theorem State.mapFaces_policy (s : State) (g : Fin 8 → FaceState → FaceState) :
    (s.mapFaces g).policy = s.policy := rfl
@[simp] theorem State.mapFaces_time (s : State) (g : Fin 8 → FaceState → FaceState) :
    (s.mapFaces g).time = s.time := rfl
@[simp] theorem State.mapFaces_light (s : State) (g : Fin 8 → FaceState → FaceState) :
    (s.mapFaces g).light = s.light := rfl
@[simp] theorem State.mapFaces_faces (s : State) (g : Fin 8 → FaceState → FaceState) :
    (s.mapFaces g).faces = tabulate fun f => g f s.faces[f] := rfl
@[simp] theorem State.mapFaces_tiles (s : State) (g : Fin 8 → FaceState → FaceState) :
    (s.mapFaces g).tiles = s.tiles := rfl
@[simp] theorem State.mapFaces_inbox (s : State) (g : Fin 8 → FaceState → FaceState) :
    (s.mapFaces g).inbox = s.inbox := rfl
@[simp] theorem State.mapFaces_report (s : State) (g : Fin 8 → FaceState → FaceState) :
    (s.mapFaces g).report = s.report := rfl
@[simp] theorem State.mapFaces_bus (s : State) (g : Fin 8 → FaceState → FaceState) : (s.mapFaces g).bus = s.bus := rfl
@[simp] theorem State.mapFaces_choices (s : State) (g : Fin 8 → FaceState → FaceState) :
    (s.mapFaces g).choices = s.choices := rfl
@[simp] theorem State.mapFaces_pending (s : State) (g : Fin 8 → FaceState → FaceState) :
    (s.mapFaces g).pending = s.pending := rfl

/-! ### setTime -/

@[simp] theorem State.setTime_inReset (s : State) (m ms : Nat) : (s.setTime m ms).inReset = s.inReset := rfl
@[simp] theorem State.setTime_straps (s : State) (m ms : Nat) : (s.setTime m ms).straps = s.straps := rfl
@[simp] theorem State.setTime_tracker (s : State) (m ms : Nat) : (s.setTime m ms).tracker = s.tracker := rfl
@[simp] theorem State.setTime_regions (s : State) (m ms : Nat) : (s.setTime m ms).regions = s.regions := rfl
@[simp] theorem State.setTime_policy (s : State) (m ms : Nat) : (s.setTime m ms).policy = s.policy := rfl
@[simp] theorem State.setTime_time (s : State) (m ms : Nat) :
    (s.setTime m ms).time = { s.time with tod := { set := true, minute := m, ms := ms } } := rfl
@[simp] theorem State.setTime_light (s : State) (m ms : Nat) : (s.setTime m ms).light = s.light := rfl
@[simp] theorem State.setTime_faces (s : State) (m ms : Nat) : (s.setTime m ms).faces = s.faces := rfl
@[simp] theorem State.setTime_tiles (s : State) (m ms : Nat) : (s.setTime m ms).tiles = s.tiles := rfl
@[simp] theorem State.setTime_inbox (s : State) (m ms : Nat) : (s.setTime m ms).inbox = s.inbox := rfl
@[simp] theorem State.setTime_report (s : State) (m ms : Nat) : (s.setTime m ms).report = s.report := rfl
@[simp] theorem State.setTime_bus (s : State) (m ms : Nat) : (s.setTime m ms).bus = s.bus := rfl
@[simp] theorem State.setTime_choices (s : State) (m ms : Nat) : (s.setTime m ms).choices = s.choices := rfl
@[simp] theorem State.setTime_pending (s : State) (m ms : Nat) : (s.setTime m ms).pending = s.pending := rfl

/-! ### noteArrival -/

@[simp] theorem State.noteArrival_inReset (s : State) : s.noteArrival.inReset = s.inReset := rfl
@[simp] theorem State.noteArrival_straps (s : State) : s.noteArrival.straps = s.straps := rfl
@[simp] theorem State.noteArrival_tracker (s : State) : s.noteArrival.tracker = { s.tracker with arrived := true } := rfl
@[simp] theorem State.noteArrival_regions (s : State) : s.noteArrival.regions = s.regions := rfl
@[simp] theorem State.noteArrival_policy (s : State) : s.noteArrival.policy = s.policy := rfl
@[simp] theorem State.noteArrival_time (s : State) : s.noteArrival.time = s.time := rfl
@[simp] theorem State.noteArrival_light (s : State) : s.noteArrival.light = s.light := rfl
@[simp] theorem State.noteArrival_faces (s : State) : s.noteArrival.faces = s.faces := rfl
@[simp] theorem State.noteArrival_tiles (s : State) : s.noteArrival.tiles = s.tiles := rfl
@[simp] theorem State.noteArrival_inbox (s : State) : s.noteArrival.inbox = s.inbox := rfl
@[simp] theorem State.noteArrival_report (s : State) : s.noteArrival.report = s.report := rfl
@[simp] theorem State.noteArrival_bus (s : State) : s.noteArrival.bus = s.bus := rfl
@[simp] theorem State.noteArrival_choices (s : State) : s.noteArrival.choices = s.choices := rfl
@[simp] theorem State.noteArrival_pending (s : State) : s.noteArrival.pending = s.pending := rfl

/-! ### endStall -/

@[simp] theorem State.endStall_inReset (s : State) (f : Fin 8) : (s.endStall f).inReset = s.inReset := rfl
@[simp] theorem State.endStall_straps (s : State) (f : Fin 8) : (s.endStall f).straps = s.straps := rfl
@[simp] theorem State.endStall_tracker (s : State) (f : Fin 8) : (s.endStall f).tracker = s.tracker := rfl
@[simp] theorem State.endStall_regions (s : State) (f : Fin 8) : (s.endStall f).regions = s.regions := rfl
@[simp] theorem State.endStall_policy (s : State) (f : Fin 8) : (s.endStall f).policy = s.policy := rfl
@[simp] theorem State.endStall_time (s : State) (f : Fin 8) : (s.endStall f).time = s.time := rfl
@[simp] theorem State.endStall_light (s : State) (f : Fin 8) : (s.endStall f).light = s.light := rfl
@[simp] theorem State.endStall_faces (s : State) (f : Fin 8) :
    (s.endStall f).faces =
      s.faces.set f { s.faces[f] with causes := s.faces[f].causes.ended clsScanStall f.val } := rfl
@[simp] theorem State.endStall_tiles (s : State) (f : Fin 8) : (s.endStall f).tiles = s.tiles := rfl
@[simp] theorem State.endStall_inbox (s : State) (f : Fin 8) :
    (s.endStall f).inbox = putBehindLast (Notice.isStallOnset f) (.stallEnded f) s.inbox := rfl
@[simp] theorem State.endStall_report (s : State) (f : Fin 8) : (s.endStall f).report = s.report := rfl
@[simp] theorem State.endStall_bus (s : State) (f : Fin 8) : (s.endStall f).bus = s.bus := rfl
@[simp] theorem State.endStall_choices (s : State) (f : Fin 8) : (s.endStall f).choices = s.choices := rfl
@[simp] theorem State.endStall_pending (s : State) (f : Fin 8) : (s.endStall f).pending = s.pending := rfl

end Sys2Proof.Machine
end

