-- ==== Sys2Proof/Laws/Ops.lean ====
section
/-! SUPPORT. Laws/Ops.lean: for each shared operation, what it can do, said once: the proofs about commands cite these
lemmas in place of unfolding the operation. -/

namespace Sys2Proof.Machine

/-! ### Counts and fields -/

/-- A saturating count is the lesser of its cap and one more. -/
theorem satInc_eq_min {cap n : Nat} (h : n ≤ cap) : satInc cap n = min cap (n + 1) := by
  unfold satInc; split <;> omega

/-- A saturating count stays within its cap. -/
theorem satInc_le {cap n : Nat} (h : n ≤ cap) : satInc cap n ≤ cap := by
  unfold satInc; split <;> omega

/-- A field of n bits is below 2^n. -/
theorem bits_lt (w : Word) (lo n : Nat) : bits w lo n < 2 ^ n := Nat.mod_lt _ (Nat.two_pow_pos n)

/-- A bit of a field. -/
theorem testBit_bits (w : Word) (lo n i : Nat) : (bits w lo n).testBit i = (decide (i < n) && w.getLsbD (lo + i)) := by
  simp [bits, Nat.testBit_mod_two_pow, Nat.testBit_shiftRight, BitVec.getLsbD]

/-- A bit of a word that holds one field. -/
theorem getLsbD_put (lo n v i : Nat) (h : i < 32) :
    (put lo n v).getLsbD i = (decide (lo ≤ i) && decide (i - lo < n) && v.testBit (i - lo)) := by
  simp only [put, BitVec.getLsbD_ofNat, Nat.testBit_mul_two_pow, Nat.testBit_mod_two_pow, h, decide_true, Bool.true_and]
  cases decide (lo ≤ i) <;> simp

/-- The lanes that no mask line closes, bit by bit. -/
theorem getLsbD_openLanes (m : Mask) (i : Fin 32) : (openLanes m).getLsbD i.val = !m.getLsbD (i.val / 8) := by
  revert m i; decide +kernel

/-- A bit of a lane-wise merge is the beat's where its lane is open, else the word's (R37, R162). -/
theorem getLsbD_mergeLanes (old data : Word) (m : Mask) (i : Fin 32) :
    (mergeLanes old data m).getLsbD i.val = if m.getLsbD (i.val / 8) then old.getLsbD i.val else data.getLsbD i.val := by
  simp only [mergeLanes, BitVec.getLsbD_or, BitVec.getLsbD_and, BitVec.getLsbD_not, getLsbD_openLanes, i.isLt,
    decide_true, Bool.true_and]
  cases m.getLsbD (i.val / 8) <;> simp

/-! ### Handing over (R147): drain and hand -/

/-- What a record does to a state: the cause sets of faces and the Report Block, and nothing else. -/
theorem takeRecord_frame (s : State) (r : Record) :
    s.takeRecord r = { s with faces := (s.takeRecord r).faces, report := (s.takeRecord r).report } := by
  unfold State.takeRecord; simp only []; split <;> rfl

/-- A face after a record: its causes alone may differ. -/
theorem takeRecord_face (s : State) (r : Record) (f : Fin 8) :
    (s.takeRecord r).faces[f] = { s.faces[f] with causes := (s.takeRecord r).faces[f].causes } := by
  unfold State.takeRecord; simp only []; split <;> (simp; split <;> rfl)

/-- A face after a frame completion: its causes alone may differ. -/
theorem takeCompletion_face (s : State) (f g : Fin 8) :
    (s.takeCompletion f).faces[g] = { s.faces[g] with causes := (s.takeCompletion f).faces[g].causes } := by
  unfold State.takeCompletion
  split
  · by_cases h : f.val = g.val <;> simp [h]
  · rfl

/-- A face after it is told that a stall has ended: its causes alone may differ. -/
theorem takeStallEnded_face (s : State) (f g : Fin 8) :
    (s.takeStallEnded f).faces[g] = { s.faces[g] with causes := (s.takeStallEnded f).faces[g].causes } := by
  unfold State.takeStallEnded
  by_cases h : f.val = g.val <;> simp [h]

/-- A frame completion changes nothing but faces. -/
theorem takeCompletion_frame (s : State) (f : Fin 8) : s.takeCompletion f = { s with faces := (s.takeCompletion f).faces } := by
  unfold State.takeCompletion; split <;> rfl

/-- The end of a stall changes nothing but faces. -/
theorem takeStallEnded_frame (s : State) (f : Fin 8) : s.takeStallEnded f = { s with faces := (s.takeStallEnded f).faces } :=
  rfl

/-- Draining changes nothing but faces and the inbox. -/
theorem drain_frame (ns : List Notice) (s : State) :
    s.drain ns = { s with faces := (s.drain ns).faces, inbox := (s.drain ns).inbox } := by
  induction ns generalizing s with
  | nil => rfl
  | cons n ns ih =>
    cases n with
    | record r => rfl
    | completion f =>
      simp only [State.drain]
      rw [ih]
      unfold State.takeCompletion; split <;> rfl
    | stallEnded f =>
      simp only [State.drain]
      rw [ih]
      rfl

/-- Draining changes nothing of a face but its causes. -/
theorem drain_face (ns : List Notice) (s : State) (g : Fin 8) :
    (s.drain ns).faces[g] = { s.faces[g] with causes := (s.drain ns).faces[g].causes } := by
  induction ns generalizing s with
  | nil => rfl
  | cons n ns ih =>
    cases n with
    | record r => rfl
    | completion f => simp only [State.drain]; rw [ih, takeCompletion_face]
    | stallEnded f => simp only [State.drain]; rw [ih, takeStallEnded_face]

/-- After draining, a record stands at the front of the inbox, if anything does. -/
theorem drain_inboxOk (ns : List Notice) (s : State) : (s.drain ns).InboxOk := by
  induction ns generalizing s with
  | nil => simp [State.drain, State.InboxOk]
  | cons n ns ih =>
    cases n with
    | record r => simp [State.drain, State.InboxOk, Notice.isRecord]
    | completion f => exact ih _
    | stallEnded f => exact ih _

/-- Handing over leaves a record at the front of the inbox, if anything. -/
theorem hand_inboxOk (s : State) (ns : List Notice) : (s.hand ns).InboxOk := drain_inboxOk _ _

/-- Where a record stands in front, draining only sets the inbox. -/
theorem drain_of_record_first (s : State) (ns : List Notice) (h : ∀ n ∈ ns.head?, n.isRecord = true) :
    s.drain ns = { s with inbox := ns } := by
  cases ns with
  | nil => rfl
  | cons n ns =>
    cases n with
    | record r => rfl
    | completion f => simp [Notice.isRecord] at h
    | stallEnded f => simp [Notice.isRecord] at h

/-- What is handed over behind a waiting record waits. -/
theorem hand_of_waiting (s : State) (ns : List Notice) (h : s.InboxOk) (hne : s.inbox ≠ []) :
    s.hand ns = { s with inbox := s.inbox ++ ns } := by
  refine drain_of_record_first _ _ fun n hn => h n ?_
  obtain ⟨x, xs, hx⟩ := List.exists_cons_of_ne_nil hne
  rw [hx] at hn ⊢; simpa using hn

/-- Records that are handed over wait, in their order. -/
theorem hand_records (s : State) (rs : List Record) (h : s.InboxOk) :
    s.hand (rs.map .record) = { s with inbox := s.inbox ++ rs.map .record } := by
  refine drain_of_record_first _ _ fun n hn => ?_
  cases hi : s.inbox with
  | nil =>
    rw [hi] at hn
    cases rs with
    | nil => simp at hn
    | cons r rs => simp at hn; subst hn; rfl
  | cons x xs => exact h n (by rw [hi] at hn ⊢; simpa using hn)

/-- One record that is handed over waits at the end. -/
theorem handRecord_eq (s : State) (r : Record) (h : s.InboxOk) :
    s.handRecord r = { s with inbox := s.inbox ++ [.record r] } := hand_records s [r] h

/-- Nothing handed over changes nothing. -/
theorem hand_nil (s : State) (h : s.InboxOk) : s.hand [] = s := by
  simpa using hand_records s [] h

/-- The record queue never grows past 16 (R157). -/
theorem append_length (p : Report) (r : Record) (h : p.queue.length ≤ 16) : (p.append r).queue.length ≤ 16 := by
  unfold Report.append; split
  · simp; omega
  · exact h

/-- A record joins the queue or is counted as dropped; the slots, the writer, the lock and a pending restart stand. -/
theorem append_frame (p : Report) (r : Record) :
    p.append r = { p with queue := (p.append r).queue, drop := (p.append r).drop } := by
  unfold Report.append; split <;> rfl

/-! ### The restart and the positions -/

/-- A settled restart is the state as it was, or after a restart. -/
theorem settleRestart_cases (s : State) :
    (s.settleRestart = s ∧ (s.report.restartPending = false ∨ s.tracker.queue ≠ [])) ∨
      (s.settleRestart = s.restart ∧ s.report.restartPending = true ∧ s.tracker.queue = []) := by
  unfold State.settleRestart
  split
  · right; simp_all
  · left; refine ⟨rfl, ?_⟩
    cases h : s.report.restartPending <;> simp_all

/-- Nothing pending, nothing settled. -/
theorem settleRestart_of_not_pending (s : State) (h : s.report.restartPending = false) : s.settleRestart = s := by
  simp [State.settleRestart, h]

/-- A settled restart leaves everything but the Report Block, the channels, the tiles and the faces. -/
theorem settleRestart_frame (s : State) :
    s.settleRestart = { s with
      report := s.settleRestart.report, light := s.settleRestart.light, tiles := s.settleRestart.tiles
      faces := s.settleRestart.faces } := by
  unfold State.settleRestart; split <;> rfl

@[simp] theorem settleRestart_tracker (s : State) : s.settleRestart.tracker = s.tracker := by rw [settleRestart_frame]
@[simp] theorem settleRestart_inbox (s : State) : s.settleRestart.inbox = s.inbox := by rw [settleRestart_frame]
@[simp] theorem settleRestart_policy (s : State) : s.settleRestart.policy = s.policy := by rw [settleRestart_frame]
@[simp] theorem settleRestart_regions (s : State) : s.settleRestart.regions = s.regions := by rw [settleRestart_frame]
@[simp] theorem settleRestart_time (s : State) : s.settleRestart.time = s.time := by rw [settleRestart_frame]
@[simp] theorem settleRestart_bus (s : State) : s.settleRestart.bus = s.bus := by rw [settleRestart_frame]
@[simp] theorem settleRestart_pending (s : State) : s.settleRestart.pending = s.pending := by rw [settleRestart_frame]
@[simp] theorem settleRestart_inReset (s : State) : s.settleRestart.inReset = s.inReset := by rw [settleRestart_frame]
@[simp] theorem settleRestart_straps (s : State) : s.settleRestart.straps = s.straps := by rw [settleRestart_frame]

/-- After settling, no restart is pending on an empty read-return queue (R167). -/
theorem settleRestart_restartOk (s : State) : s.settleRestart.RestartOk := by
  rcases settleRestart_cases s with ⟨h, hp⟩ | ⟨h, -, -⟩ <;> rw [h] <;> intro hr
  · rcases hp with hp | hp
    · simp [hp] at hr
    · exact hp
  · simp [State.restart, Report.restart] at hr

/-- A masked return leaves everything but the tracker and what a settled restart changes. -/
theorem returnMasked_frame (s : State) :
    s.returnMasked = { s with
      tracker := s.returnMasked.tracker, report := s.returnMasked.report, light := s.returnMasked.light
      tiles := s.returnMasked.tiles, faces := s.returnMasked.faces } := by
  unfold State.returnMasked
  split
  · rw [settleRestart_frame]; rfl
  · rfl

/-! ### The end of a stall (R133, R134, R151) -/

/-- The end of a stall changes nothing but faces and what waits. -/
theorem endStall_frame (s : State) (f : Fin 8) :
    s.endStall f = { s with faces := (s.endStall f).faces, inbox := (s.endStall f).inbox } := rfl

/-- A face after the end of a stall: its causes alone may differ. -/
theorem endStall_face (s : State) (f g : Fin 8) :
    (s.endStall f).faces[g] = { s.faces[g] with causes := (s.endStall f).faces[g].causes } :=
  takeStallEnded_face s f g

/-- Nothing is put behind an element that is not there. -/
theorem putBehindLast_of_none {α : Type} {p : α → Bool} {x : α} {l : List α} (h : ∀ y ∈ l, p y = false) :
    putBehindLast p x l = l := by
  cases l with
  | nil => rfl
  | cons y ys =>
    have hys : ys.any p = false := by simpa using fun z hz => h z (List.mem_cons_of_mem _ hz)
    simp [putBehindLast, hys, h y]

/-- The last element that is picked is followed by what is put behind it. -/
theorem putBehindLast_of_last {α : Type} {p : α → Bool} {x n : α} (front back : List α) (hn : p n = true)
    (hb : ∀ y ∈ back, p y = false) : putBehindLast p x (front ++ n :: back) = front ++ n :: x :: back := by
  induction front with
  | nil =>
    have hys : back.any p = false := by simpa using hb
    simp [putBehindLast, hys, hn]
  | cons y ys ih => simp [putBehindLast, hn, ih]

/-- What is put behind an element adds no element that a filter keeps, where the filter drops it. -/
theorem putBehindLast_filter {α : Type} (p q : α → Bool) (x : α) (l : List α) (h : q x = false) :
    (putBehindLast p x l).filter q = l.filter q := by
  induction l with
  | nil => rfl
  | cons y ys ih =>
    simp only [putBehindLast]
    split
    · simp [List.filter_cons, ih]
    · split <;> simp [List.filter_cons, h]

/-! ### What time has made due (R66, R69) -/

/-- An expiry, due or not, leaves everything but the channels, the faces and what waits. -/
theorem staleExpiry_frame (s : State) (ch : Fin 4) :
    s.staleExpiry ch = { s with
      light := (s.staleExpiry ch).light, faces := (s.staleExpiry ch).faces, inbox := (s.staleExpiry ch).inbox } := by
  unfold State.staleExpiry
  split
  · simp only [State.handRecord, State.hand]; rw [drain_frame]; rfl
  · rfl

/-- An expiry, due or not, leaves everything but the faces and what waits. -/
theorem stallExpiry_frame (s : State) (f : Fin 8) :
    s.stallExpiry f = { s with faces := (s.stallExpiry f).faces, inbox := (s.stallExpiry f).inbox } := by
  unfold State.stallExpiry
  split
  · simp only [State.handRecord, State.hand]; rw [drain_frame]; rfl
  · rfl

/-- An expiry, due or not, leaves everything but the tiles, the faces and what waits. -/
theorem silentExpiry_frame (s : State) (f : Fin 8) (i : Fin 32) :
    s.silentExpiry f i = { s with
      tiles := (s.silentExpiry f i).tiles, faces := (s.silentExpiry f i).faces
      inbox := (s.silentExpiry f i).inbox } := by
  unfold State.silentExpiry
  split
  · simp only [State.handRecord, State.hand]; rw [drain_frame]; rfl
  · rfl

@[simp] theorem staleExpiry_inReset (s : State) (ch : Fin 4) : (s.staleExpiry ch).inReset = s.inReset := by
  rw [staleExpiry_frame]
@[simp] theorem stallExpiry_inReset (s : State) (f : Fin 8) : (s.stallExpiry f).inReset = s.inReset := by
  rw [stallExpiry_frame]
@[simp] theorem silentExpiry_inReset (s : State) (f : Fin 8) (i : Fin 32) : (s.silentExpiry f i).inReset = s.inReset := by
  rw [silentExpiry_frame]

/-- Out of reset the four commands of time do what the settling of time does, each for its own part. -/
theorem after_time (s : State) (h : s.inReset = false) :
    (∀ ch, s.after (.staleTimerExpiry ch) = s.staleExpiry ch) ∧ (∀ f, s.after (.stallTimerExpiry f) = s.stallExpiry f) ∧
      (∀ f i, s.after (.silentTimerExpiry f i) = s.silentExpiry f i) ∧ s.after .dimmingTick = s.takeTick := by
  refine ⟨fun _ => ?_, fun _ => ?_, fun _ _ => ?_, ?_⟩ <;>
    simp [State.after, exec, execStaleTimerExpiry, execStallTimerExpiry, execSilentTimerExpiry, execDimmingTick, h]

/-- A fold of commands is a fold of what they do, where each does it out of reset and none enters reset. -/
theorem afterAll_map {α : Type} (cmd : α → Instr) (op : State → α → State)
    (hop : ∀ s a, s.inReset = false → s.after (cmd a) = op s a) (hr : ∀ s a, (op s a).inReset = s.inReset)
    (l : List α) (s : State) (h : s.inReset = false) :
    s.afterAll (l.map cmd) = l.foldl op s ∧ (l.foldl op s).inReset = false := by
  induction l generalizing s with
  | nil => exact ⟨rfl, h⟩
  | cons a l ih =>
    obtain ⟨h1, h2⟩ := ih (op s a) ((hr s a).trans h)
    refine ⟨?_, h2⟩
    simp only [State.afterAll, List.map_cons, List.foldl_cons] at h1 ⊢
    rw [hop s a h, h1]

/-- Commands one after the other. -/
theorem afterAll_append (s : State) (a b : List Instr) : s.afterAll (a ++ b) = (s.afterAll a).afterAll b := by
  simp only [State.afterAll, List.foldl_append]

/-- The commands of time together do what the settling of time does. -/
theorem afterAll_timeCommands (s : State) (h : s.inReset = false) : s.afterAll timeCommands = s.settleTime := by
  have h1 := afterAll_map .staleTimerExpiry State.staleExpiry (fun s a h => (after_time s h).1 a)
    staleExpiry_inReset (List.finRange 4) s h
  have h2 := afterAll_map .stallTimerExpiry State.stallExpiry (fun s a h => (after_time s h).2.1 a)
    stallExpiry_inReset (List.finRange 8) _ h1.2
  have h3 (f : Fin 8) (t : State) (ht : t.inReset = false) :=
    afterAll_map (.silentTimerExpiry f) (fun s i => s.silentExpiry f i) (fun s a h => (after_time s h).2.2.1 f a)
      (fun s i => silentExpiry_inReset s f i) (List.finRange 32) t ht
  have h4 : ∀ (l : List (Fin 8)) (t : State), t.inReset = false →
      t.afterAll (l.flatMap fun f => (List.finRange 32).map (.silentTimerExpiry f)) =
        l.foldl (fun s f => (List.finRange 32).foldl (fun s i => s.silentExpiry f i) s) t ∧
      (l.foldl (fun s f => (List.finRange 32).foldl (fun s i => s.silentExpiry f i) s) t).inReset = false := by
    intro l
    induction l with
    | nil => exact fun t ht => ⟨rfl, ht⟩
    | cons f l ih =>
      intro t ht
      rw [List.flatMap_cons, afterAll_append, (h3 f t ht).1, List.foldl_cons]
      exact ih _ (h3 f t ht).2
  have h5 := h4 (List.finRange 8) _ h2.2
  have h6 (t : State) : t.afterAll [.dimmingTick] = t.after .dimmingTick := rfl
  rw [timeCommands, afterAll_append, afterAll_append, afterAll_append, h1.1, h2.1, h5.1, h6, (after_time _ h5.2).2.2.2]
  simp only [State.settleTime, State.takeExpiries]

/-- An expiry that is not due changes nothing. -/
theorem expiries_of_nothingDue {s : State} (h : s.NothingDue) :
    (∀ ch, s.staleExpiry ch = s) ∧ (∀ f, s.stallExpiry f = s) ∧ (∀ f i, s.silentExpiry f i = s) ∧ s.takeTick = s := by
  have due : ∀ {t : Timer}, t.due = true → t = .running 0 := by
    intro t ht
    cases t with
    | running n => cases n <;> simp_all [Timer.due]
    | stopped => simp [Timer.due] at ht
    | halted => simp [Timer.due] at ht
  obtain ⟨h1, h2, h3, h4⟩ := h
  refine ⟨fun ch => if_neg fun hd => h1 ch (due hd), fun f => if_neg fun hd => ?_,
    fun f i => if_neg fun hd => h3 f i (due hd), if_neg (by simp [h4])⟩
  simp [State.monitored] at hd
  exact h2 f hd.1.1.1 hd.1.1.2 hd.2 (due hd.1.2)

/-- A fold of what changes nothing changes nothing. -/
theorem foldl_fixed {α β : Type} (op : β → α → β) (s : β) (h : ∀ a, op s a = s) (l : List α) : l.foldl op s = s := by
  induction l with
  | nil => rfl
  | cons a l ih => simpa [h a] using ih

/-- Where nothing is due, the settling of time changes nothing. -/
theorem settleTime_of_nothingDue {s : State} (h : s.NothingDue) : s.settleTime = s := by
  obtain ⟨h1, h2, h3, h4⟩ := expiries_of_nothingDue h
  simp only [State.settleTime, State.takeExpiries]
  rw [foldl_fixed State.staleExpiry s h1, foldl_fixed State.stallExpiry s h2,
    foldl_fixed (fun s f => (List.finRange 32).foldl (fun s i => s.silentExpiry f i) s) s
      fun f => foldl_fixed (fun s i => s.silentExpiry f i) s (h3 f) _]
  exact h4

/-! ### The Report Block (R159) -/

/-- The slot that a record takes is a candidate. -/
theorem chosen_candidate {p : Report} {r : Record} {k : Fin 32} (h : p.chosen r = some k) : p.candidate r k = true := by
  unfold Report.chosen at h
  simp only [] at h
  split at h
  · have hm := List.mem_of_find?_eq_some (by assumption)
    simp at h; subst h; simpa using (List.mem_filter.mp hm).2
  · have hm := List.mem_of_getLast? h
    simpa using (List.mem_filter.mp hm).2

/-- No slot is chosen exactly where there is no candidate. -/
theorem chosen_none {p : Report} {r : Record} : p.chosen r = none ↔ ∀ k : Fin 32, p.candidate r k = false := by
  unfold Report.chosen
  simp only []
  constructor
  · intro h k
    split at h
    · simp at h
    · have he : (allSlots.filter fun k => p.candidate r k) = [] := by simpa using h
      have := (List.filter_eq_nil_iff.mp he) k (List.mem_finRange k)
      simpa using this
  · intro h
    have he : (allSlots.filter fun k => p.candidate r k) = [] := List.filter_eq_nil_iff.mpr fun k _ => by simp [h k]
    rw [he]; rfl

/-- After a choice an IDLE writer has left no record waiting (R159). -/
theorem chooseFrom_idle (p : Report) (rs : List Record) (h : (p.chooseFrom rs).writer = none) : (p.chooseFrom rs).queue = [] := by
  induction rs generalizing p with
  | nil => rfl
  | cons r rs ih =>
    simp only [Report.chooseFrom] at h ⊢
    split at h
    · simp at h
    · exact ih _ h

/-- The same of a choice that is called for or not. -/
theorem choice_idle (p : Report) (h : p.choice.writer = none) : p.choice.queue = [] := by
  unfold Report.choice at h ⊢
  split at h
  · exact chooseFrom_idle _ _ h
  · simp_all

/-! ### The light filter (R77) -/

/-- A placed code lengthens the list by one. -/
@[simp] theorem insertCode_length (x : Nat) (l : List Nat) : (insertCode x l).length = l.length + 1 := by
  induction l with
  | nil => rfl
  | cons y ys ih => simp only [insertCode]; split <;> simp [ih]

/-- Sorting keeps the number of codes. -/
@[simp] theorem sortCodes_length (l : List Nat) : (sortCodes l).length = l.length := by
  induction l with
  | nil => rfl
  | cons x xs ih => simp [sortCodes, ih]

/-- Placing a code only adds it. -/
theorem insertCode_perm (x : Nat) (l : List Nat) : (insertCode x l).Perm (x :: l) := by
  induction l with
  | nil => exact List.Perm.refl _
  | cons y ys ih =>
    simp only [insertCode]; split
    · exact List.Perm.refl _
    · exact (ih.cons y).trans (List.Perm.swap x y ys)

/-- Sorting only reorders the codes. -/
theorem sortCodes_perm (l : List Nat) : (sortCodes l).Perm l := by
  induction l with
  | nil => exact List.Perm.refl _
  | cons x xs ih => exact (insertCode_perm x _).trans (ih.cons x)

/-- A window never holds more than nine codes. -/
theorem windowAdd_length (w : List Nat) (c : Nat) (h : w.length ≤ 9) : (windowAdd w c).length ≤ 9 := by
  unfold windowAdd; split <;> simp <;> omega

/-! ### The beats of the service area -/

/-- A write beat at a service offset out of reset with the store AWAKE: re-driven, and taken by its page. -/
theorem serviceWrite_of_takesBus (s : State) (off : Nat) (d : Word) (m : Mask) (h : s.takesBus = true) :
    s.serviceWrite off d m =
      if off < 2048 then (s.driveStore d m).policyWrite off d m else (s.driveStore d m).reportWrite (off - 2048) d m := by
  have hr : s.inReset = false := by simp [State.takesBus] at h; exact h.1
  simp only [State.serviceWrite, hr, h, Bool.not_true]
  by_cases ho : off < 2048 <;> simp [State.takeWrite, ho]

/-- Out of a position no write beat is taken; in reset its word still passes toward the store (R110). -/
theorem serviceWrite_of_not_takesBus (s : State) (off : Nat) (d : Word) (m : Mask) (h : s.takesBus = false) :
    s.serviceWrite off d m = if s.inReset then s.driveStore d m else s := by
  simp [State.serviceWrite, h]

/-- A bus command out of a position is only re-driven (R1, R2, R22). -/
theorem busCommand_of_not_takesBus (s : State) (c : BusCommand) (f : State → State) (h : s.takesBus = false) :
    s.busCommand c f = s.driveCommand c := by
  simp [State.busCommand, h]

/-- A bus command at its position. -/
theorem busCommand_of_takesBus (s : State) (c : BusCommand) (f : State → State) (h : s.takesBus = true) :
    s.busCommand c f = (f (s.atPosition c)).settleRestart := by
  simp [State.busCommand, h, State.atPosition]

end Sys2Proof.Machine
end

