-- ==== Sys2Proof/Tests/Slice0.lean ====
section
/-! SUPPORT. Tests/Slice0.lean: the model's own tests, whose expected values come from the worked sequences and tables
of the spec, and a witness for the hypotheses of every statement. -/

namespace Sys2Proof.Tests

-- The theorems below are checked one after the other: side by side, each on a thread of its own, they need more memory.
set_option Elab.async false

open Sys2Proof.Machine

/-! ### Small states -/

/-- The state after a command. -/
def after (c : Instr) (s : State) : State := s.after c

/-- The straps of the worked examples: SVC 1, MAP 0, FB 2, CLK 0. -/
def straps1 : Straps := { svc := 1, map := false, fb := 2, clk := false }

/-- The part just out of reset. -/
def released : State := { State.held (some straps1) State.reset.bus 0 [] with inReset := false }

/-- A state with a LOADED mode image and a bank table. -/
def loaded (len : BurstLength) (order : BurstOrder) (latency : Nat) (banks : Vector Bank 4) (s : State) : State :=
  { s with
    tracker := { s.tracker with
      mode := { length := len, order := order, latency := latency, writeSingle := false, source := .loaded }
      banks := banks } }

/-- Burst length 8, SEQUENTIAL, latency 2; bank 0 OPEN at row 5, bank 3 UNKNOWN (Chapter 1, second worked sequence). -/
def writing : State := loaded .eight .sequential 2 #v[.opened 5, .idle, .idle, .unknown] released

/-- Burst length 4, INTERLEAVED, latency 3; bank 1 OPEN at row 100, bank 2 at row 7 (Chapter 1, first worked sequence). -/
def reading : State := loaded .four .interleaved 3 #v[.idle, .opened 100, .opened 7, .idle] released

/-- The entry E1 of the first worked sequence. -/
def entry1 (issued returned : Nat) (issuing : Bool) : ReadEntry :=
  { bank := 1, row := some 100, start := 13, length := .four, order := .interleaved, issued := issued
    returned := returned, autoclose := false, truncated := !issuing, issuing := issuing }

/-- The entry E2 of the first worked sequence. -/
def entry2 (issued returned : Nat) (issuing : Bool) : ReadEntry :=
  { bank := 2, row := some 7, start := 42, length := .four, order := .interleaved, issued := issued
    returned := returned, autoclose := true, truncated := false, issuing := issuing }

/-- The read-return queue of a state, its due positions, the position taken last and whether its beat is done. -/
def withQueue (q : List ReadEntry) (due : List Nat) (position : Nat) (beatDone : Bool) (s : State) : State :=
  { s with tracker := { s.tracker with queue := q, due := due, position := position, beatDone := beatDone } }

/-- A write burst in flight. -/
def withWrite (start : Column) (issued : Nat) (auto : Bool) (s : State) : State :=
  { s with
    tracker := { s.tracker with
      beatDone := true
      write := some {
        bank := 0, row := some 5, start := start, length := .eight, order := .sequential, issued := issued
        autoclose := auto, lengthKnown := true } } }

/-- A face record of the worked examples: MAX of channels 0 and 1 under curve 0, rates 256, 512 and 4,096, loss level
300, derate level 1,024, M 30. -/
def faceWords (first baseA baseB size strideExp : Word) : Vector Word 9 :=
  #v[first, baseA, baseB, size, strideExp, 0x02000100, 4096, 0x0400012C, 30]

/-- Face 0: buffers at 0 and 1,048,576, 1,000 by 300, stride 1,024. -/
def face0 : Vector Word 9 := faceWords 0x303 0 1048576 0x012C03E8 10

/-- Face 2: buffer A alone, 256 by 128, stride 256. -/
def face2 (baseA : Word) : Vector Word 9 := faceWords 0x301 baseA 0 0x00800100 8

/-- The default tables with the two faces of Chapter 2's example, zone 7 of face 2 trimmed to 240 and zone 8 to 200. -/
def roadTables : Tables :=
  { defaultTables with
    faces := (defaultTables.faces.set 0 face0).set 2 (face2 2097152)
    trims := defaultTables.trims.set 2 ((defaultTables.trims[2].set 7 240).set 8 200) }

/-- A face just configured under fallback level 1,024. -/
def newFace : FaceState :=
  { mode := .run, level := .configure 1024, pixel := .configure 1024, scan := .configure, causes := .reset }

/-- Chapter 2's example: faces 0 and 2 configured, the tracker TRACKING. -/
def road : State :=
  { loaded .four .sequential 2 #v[.opened 1029, .opened 5, .idle, .unknown] released with
    policy := { Policy.reset with active := roadTables, staging := roadTables }
    regions := (released.regions.set 0 (regionOf (roadTables.face 0) .reset)).set 2 (regionOf (roadTables.face 2) .reset)
    faces := (released.faces.set 0 newFace).set 2 newFace }

/-- The road with face f changed. -/
def roadFace (f : Fin 8) (g : FaceState → FaceState) : State := road.modFace f g

/-- Face 2 in the middle of a frame: SCANNING buffer A at line 40, the frame OPEN at factor 307 with one pixel counted. -/
def scanning (x : FaceState) : FaceState :=
  { x with
    scan := { x.scan with state := .scanning, lastLine := 40, linesSeen := 41, timer := .running 5 }
    pixel := { x.pixel with factor := 307, frameOpen := true, count := 1, sumIn := 75, sumOut := 6 } }

/-- Face 2 scanning. -/
def scan2 : State := roadFace 2 scanning

/-- A record, to stand in queues. -/
def rec1 : Record := road.mkRecord .tile 69 18 .onset 128

/-- A notice as (kind, source, class, event, value). -/
def shown : Notice → Option (Nat × Nat × Nat × EventKind × Nat)
  | .record r => some (r.kind, r.src, r.cls.val, r.event, r.value.toNat)
  | _ => none

/-- The records of the inbox, in order. -/
def records (s : State) : List (Nat × Nat × Nat × EventKind × Nat) := s.inbox.filterMap shown

/-! ### Well-formedness -/

/-- Offset 3 is an immediate word, no staged one (R37). -/
theorem test_staging_write_off_section_refused : (Instr.stagingWrite 3 0 0).wellFormed = false := by decide
/-- Offset 2,047 lies past the staged sections (R37). -/
theorem test_staging_write_past_sections_refused : (Instr.stagingWrite 2047 0 0).wellFormed = false := by decide
/-- Offset 0 is the time word, not reserved (R169). -/
theorem test_reserved_write_at_time_word_refused : (Instr.reservedWrite 0 0 0).wellFormed = false := by decide
/-- Service offset 3,081 is slot 0's filter word, not reserved (R162). -/
theorem test_reserved_write_at_filter_word_refused : (Instr.reservedWrite 3081 0 0).wellFormed = false := by decide
/-- Offset 12 is reserved (R39). -/
theorem test_reserved_write_accepted : (Instr.reservedWrite 12 0 0).wellFormed = true := by decide
/-- The table gives no row bits, so no word spells a command. -/
theorem test_no_word_spells_a_command : decodeTableWord 8 0 = none := by decide

/-! ### Chapter 1 -/

/-- The INTERLEAVED columns of E1 and E2. -/
theorem test_interleaved_columns :
    (List.range 4).map (burstColumn .four .interleaved 13) = [13, 12, 15, 14] ∧
      (List.range 4).map (burstColumn .four .interleaved 42) = [42, 43, 40, 41] := by decide
/-- The SEQUENTIAL columns from 2 and from 9. -/
theorem test_sequential_columns :
    (List.range 8).map (burstColumn .eight .sequential 2) = [2, 3, 4, 5, 6, 7, 0, 1] ∧
      (List.range 8).map (burstColumn .eight .sequential 9) = [9, 10, 11, 12, 13, 14, 15, 8] := by decide
/-- The word addresses of the worked sequences, and of Chapter 2's beat 7. -/
theorem test_word_addresses :
    wordAddress false 1 100 0 = 205312 ∧ wordAddress false 2 7 0 = 15360 ∧ wordAddress false 0 5 2 = 10242 ∧
      wordAddress false 0 1029 200 = 2107592 := by decide
/-- Position p2: the READ of E2 truncates E1 at two beats. -/
theorem test_read_truncates_burst :
    (after (.read 2 42 true) (withQueue [entry1 2 0 true] [4, 5] 2 true reading)).tracker.queue =
      [entry1 2 0 false, entry2 1 0 true] := by decide +kernel
/-- Position p6: the READ finds bank 2 IDLE: kind 1 and no entry, after the return of the beat due. -/
theorem test_read_of_idle_bank :
    let t := after (.read 2 0 false)
      { withQueue [entry2 4 1 false] [7, 8, 9] 6 true reading with
        tracker := { (withQueue [entry2 4 1 false] [7, 8, 9] 6 true reading).tracker with
          banks := #v[.idle, .opened 100, .idle, .idle] } }
    t.tracker.queue = [entry2 4 2 false] ∧ records t = [(4, 0, 25, .occurrence, 1)] := by decide +kernel
/-- Position p5: the last beat of E2 closes bank 2. -/
theorem test_last_beat_closes_bank :
    (after (.burstComplete 0 0) (withQueue [entry2 3 1 true] [6, 7] 5 false reading)).tracker.banks =
      #v[.idle, .opened 100, .idle, .idle] := by decide +kernel
/-- Position p3: E1's beat of column 13 returns and is delivered. -/
theorem test_beat_returns :
    (after (.readBeatReturn 7 0 false) (withQueue [entry1 2 0 false, entry2 1 0 true] [4, 5, 6] 3 true reading)).tracker.queue
      = [entry1 2 1 false, entry2 1 0 true] := by decide +kernel
/-- Position q0: the WRITE's burst goes on at column 3 with 7 beats remaining. -/
theorem test_write_starts_burst :
    (after (.write 0 2 true 9 0) writing).tracker.write.map (fun w => (w.nextColumn, w.remaining)) = some (3, some 7) := by
  decide +kernel
/-- Position q3: a second WRITE to the autoclose burst's bank: kind 8, and the bank stays OPEN. -/
theorem test_interrupted_autoclose :
    let t := after (.write 0 9 false 9 0) (withWrite 2 3 true writing)
    records t = [(4, 0, 25, .occurrence, 8)] ∧ t.tracker.banks[(0 : Fin 4)] = .opened 5 ∧
      t.tracker.write.map (·.nextColumn) = some 10 := by decide +kernel
/-- Position q5: the BURST-STOP ends the burst, and bank 0 stays OPEN. -/
theorem test_burst_stop :
    let t := after .burstStop (withWrite 9 2 false writing)
    t.tracker.write = none ∧ t.tracker.banks[(0 : Fin 4)] = .opened 5 := by decide +kernel
/-- Position q1: the burst's next write beat. -/
theorem test_burst_beat :
    (after (.burstBeatIssue 0 0b1100) (withWrite 2 1 true writing)).tracker.write.map (fun w => (w.nextColumn, w.remaining))
      = some (4, some 6) := by decide +kernel
/-- Position r0: a READ while LOST makes no entry. -/
theorem test_read_while_lost : (after (.read 2 64 false) released).tracker.queue = [] := by decide +kernel
/-- Position r2 (SVC 0, MAP 0): the declaration at word 1 makes the tracker TRACKING, with a TRACK LOST clear, and the
write burst keeps its unknown length. -/
theorem test_declaration_regains_tracking :
    let t := after (.write 0 1 false 0x32 0)
      { released with
        straps := some { straps1 with svc := 0 }
        tracker := { released.tracker with banks := #v[.opened 0, .unknown, .unknown, .unknown] } }
    t.tracker.mode = { length := .four, order := .sequential, latency := 3, writeSingle := false, source := .declared } ∧
      records t = [(4, 0, 24, .clear, 0)] ∧ t.tracker.write.map (·.lengthKnown) = some false := by decide +kernel
/-- Chapter 2, second example, item 1: a declaration written to an UNKNOWN bank is not seen. -/
theorem test_unattributed_write_is_not_seen : (after (.write 0 1 false 0x32 0) released).tracking = false := by
  decide +kernel
/-- R4: an OPEN of an OPEN bank takes the new row with kind 2. -/
theorem test_open_of_open_bank :
    let t := after (.openBank 0 8191) writing
    t.tracker.banks[(0 : Fin 4)] = .opened 8191 ∧ records t = [(4, 0, 25, .occurrence, 2)] := by decide +kernel
/-- R6: a REFRESH with a bank OPEN leaves every bank UNKNOWN with kind 3. -/
theorem test_refresh :
    let t := after .refresh writing
    t.tracker.banks = #v[.unknown, .unknown, .unknown, .unknown] ∧ records t = [(4, 0, 25, .occurrence, 3)] := by
  decide +kernel
/-- R7, R8: a MODE-LOAD of full row INTERLEAVED is invalid: kinds 4 and 7, then the TRACK LOST onset. -/
theorem test_invalid_mode_load :
    records (after (.modeLoad { length := 7, interleaved := true, latency := 3, writeSingle := false }) writing) =
      [(4, 0, 25, .occurrence, 4), (4, 0, 25, .occurrence, 7), (4, 0, 24, .onset, 0)] := by decide +kernel
/-- R1: the edge of a RESUME is a position, at which a write burst issues its beat before the next SUSPEND. -/
theorem test_resume_is_a_position :
    let s := after .suspend (after .resume (after .suspend (withWrite 2 3 true writing)))
    s.tracker.store = .suspended ∧ s.tracker.write.map (·.issued) = some 4 ∧
      s.tracker.position = writing.tracker.position + 1 := by decide +kernel
/-- R2: the SLEEP-ENTER with a bank OPEN: kind 5 and every bank IDLE. -/
theorem test_sleep_enter :
    let t := after .sleepEnter writing
    t.tracker.store = .asleep ∧ t.tracker.banks = #v[.idle, .idle, .idle, .idle] ∧
      records t = [(4, 0, 25, .occurrence, 5)] := by decide +kernel

/-! ### Chapter 2 -/

/-- The nine beats of the worked example. -/
theorem test_nine_beats :
    [4194305, 4196352, 77050, 1355751, 1355752, 1355776, 2107592, 4198400].map (fun w => road.classify (some w)) =
      [.policy 1, .report 0, .pixel 0 .A 250 75 5, .pixel 0 .B 999 299 15, .padding 0 .B, .other true,
        .pixel 2 .A 200 40 7, .other true] ∧ road.classify none = .unattributed := by decide +kernel
/-- R109: an unattributed word leaves scaled by the fallback factor 1,024, to about a quarter. -/
theorem test_unplaced_arrival_is_scaled :
    (after (.unplacedArrival 0x3E800000 0 false) road).bus.toController = some 0x0FA00000 := by decide +kernel

/-! ### Chapter 3 -/

/-- The road before face 2, with its mistyped record staged and a commit of F and Z in flight. -/
def committing (baseA : Word) : State :=
  { road with
    policy := { Policy.reset with
      staging := { roadTables with faces := (defaultTables.faces.set 0 face0).set 2 (face2 baseA) }
      active := { defaultTables with faces := defaultTables.faces.set 0 face0 }
      commitWord := { mask := 0b001001, seq := 17 }
      status := { seq := 17, state := .inFlight, failure := none, lost := 0 } }
    regions := released.regions.set 0 (regionOf (roadTables.face 0) .reset)
    faces := released.faces.set 0 newFace }

/-- Step 5: FACE OVERLAP in section F. -/
theorem test_validation_failure :
    (after .validationFailure (committing 1300000)).policy.status =
      { seq := 17, state := .rejected, failure := some (.faceOverlap, .F), lost := 0 } := by decide +kernel
/-- R48, 12.4: a new base for a buffer B that is not present is no change of the record (R60). -/
theorem test_absent_base_is_no_change :
    faceChange roadTables { roadTables with faces := roadTables.faces.set 2 ((face2 2097152).set 2 77) } 2 = .none := by
  decide +kernel
/-- Steps 8 and 9: with the right base the switch comes, and face 2 becomes configured at the fallback level. -/
theorem test_switch :
    let t := after .switch (committing 2097152)
    t.policy.status.state = .accepted ∧ t.configured 2 = true ∧ t.faces[(2 : Fin 8)].level.held = 262144 ∧
      t.faces[(2 : Fin 8)].pixel.factor = 1024 ∧ t.faces[(2 : Fin 8)].mode = .run ∧
      t.classify (some 2107592) = .pixel 2 .A 200 40 7 := by decide +kernel
/-- Step 2: a write of the locked section Z is lost and counted. -/
theorem test_locked_write_is_lost :
    let t := after (.stagingWrite 376 200 0) (committing 1300000)
    t.policy.status.lost = 1 ∧ t.policyRead 376 = (committing 1300000).policyRead 376 := by decide +kernel
/-- Step 3: section C is not locked. -/
theorem test_unlocked_write_is_staged : (after (.stagingWrite 176 3 0) (committing 1300000)).policyRead 176 = 3 := by
  decide +kernel
/-- Step 4: a request with a commit in flight is refused and counted. -/
theorem test_refused_commit :
    let t := after (.commitRequest 0x1209 0) (committing 1300000)
    t.policy.refused = 1 ∧ t.policyRead 2 = 0x1109 := by decide +kernel

/-! ### Chapter 4 -/

/-- Time-of-day SET at a minute and millisecond. -/
def atTime (minute ms : Nat) (s : State) : State :=
  { s with time := { s.time with tod := { set := true, minute := minute, ms := ms } } }

/-- Tuesday 21:29:59.999 becomes 21:30 at the event that makes 73,494. -/
theorem test_minute_turns :
    let t := after .oneMsEvent { atTime 2729 59999 released with time := { (atTime 2729 59999 released).time with stamp := 73493 } }
    t.time.stamp = 73494 ∧ t.time.tod = { set := true, minute := 2730, ms := 0 } := by decide +kernel
/-- R69: the event that finds the phase at 99 raises the tick. -/
theorem test_tick_is_raised :
    let t := after .oneMsEvent { released with time := { released.time with phase := 99 } }
    t.time.phase = 0 ∧ t.time.tickRaised = true := by decide +kernel
/-- R66: an expiry that no command has taken is taken before the next 1 ms event. -/
theorem test_expiry_is_not_outlived :
    records (released.setChannel 1 (Channel.reset.good 152 false 0 0)).settleTime = [(2, 1, 8, .onset, 0)] := by
  decide +kernel
/-- The setting of Tuesday 21:29:59.960. -/
theorem test_time_word : (after (.timeWordWrite 0x0AA9EA38 0) released).time.tod = { set := true, minute := 2729, ms := 59960 } := by
  decide +kernel

/-- Entries 0 to 4 of the worked sequence, as (faces, start, cap). -/
def entries4 : List SchedEntry :=
  [⟨true, 0b1100, 360, 4095⟩, ⟨true, 0b1100, 1290, 300⟩, ⟨true, 0b0100, 1800, 4095⟩, ⟨true, 0b0100, 2730, 300⟩,
    ⟨true, 0b1000, 8640, 150⟩]

/-- The caps of faces 2, 3 and 0 across the week. -/
theorem test_caps_across_the_week :
    [180, 1799, 1800, 2800, 9000].map (capAt (entries4.filter fun e => e.faces.getLsbD 2)) = [300, 300, 4095, 300, 300] ∧
      [100, 2800, 9000].map (capAt (entries4.filter fun e => e.faces.getLsbD 3)) = [150, 300, 150] ∧
      capAt (entries4.filter fun e => e.faces.getLsbD 0) 100 = 4095 := by decide +kernel
/-- Entry 6 duplicates entry 1 on face 3, and not with face 5 alone. -/
theorem test_duplicate_start :
    checkSchedule [] (entries4 ++ [⟨true, 0b101000, 1290, 200⟩]) = some .scheduleDuplicate ∧
      checkSchedule [] (entries4 ++ [⟨true, 0b100000, 1290, 200⟩]) = none := by decide +kernel

/-! ### Chapter 5 -/

/-- The filtered values of the window under headlight sweeps. -/
theorem test_lower_medians :
    [[150, 152, 149, 160, 1900, 151, 155, 158], [150, 152, 149, 160, 1900, 151, 155, 158, 150],
      [152, 149, 160, 1900, 151, 155, 158, 150, 153], [149, 160, 1900, 151, 155, 158, 150, 153, 2100],
      [160, 1900, 151, 155, 158, 150, 153, 2100, 1950], [1900, 151, 155, 158, 150, 153, 2100, 1950, 148]].map lowerMedian =
      [some 152, some 152, some 153, some 155, some 158, some 155] := by decide +kernel

/-- Channel 1 of the worked sequence, gone STALE with bad counts as given. -/
def lostChannel (consecBad bad : Nat) (active : Bool) : State :=
  released.setChannel 1
    { state := .stale, heard := true, window := [], timer := .stopped, lastGood := some 71050, consecBad := consecBad
      badActive := active, satRun := false, samples := 7, bad := bad }

/-- 73,310: the third bad frame. -/
theorem test_third_bad_frame :
    records (after (.sensorFrameArrival 4 0 0 0 0 0) (lostChannel 2 7 false)) = [(2, 1, 9, .onset, 8)] := by decide +kernel
/-- 73,360: a good frame of 65,535 with its flag set. -/
theorem test_good_frame_after_silence :
    let t := after (.sensorFrameArrival 6 15 15 15 15 13) (lostChannel 3 8 true)
    records t = [(2, 1, 8, .clear, 0), (2, 1, 9, .clear, 8), (2, 1, 10, .occurrence, 65535)] ∧
      t.light.channels[(1 : Fin 4)].filtered = some 65535 := by decide +kernel
/-- 12.7: the nibbles 4, 0, 0, 9, 8, 10 are channel 1 with light code 152. -/
theorem test_sample_frame :
    (after (.sensorFrameArrival 4 0 0 9 8 10) released).light.channels[(1 : Fin 4)].window = [152] := by decide +kernel

/-! ### Chapter 6 -/

/-- The curve levels of face 2. -/
theorem test_curve_levels :
    [0, 152, 200, 1000, 3400, 20000, 65535].map (curveLevel [(0, 120), (200, 400), (2000, 1800), (20000, 4095)]) =
      [120, 332, 400, 1022, 1978, 4095, 4095] := by decide +kernel

/-- Face 2 at a held level, with no light so that the loss level 300 is its target, and the tick raised. -/
def ticking (mode : Mode) (held : Nat) (catchUp : Bool) : State :=
  { roadFace 2 fun x => { x with mode := mode, level := { x.level with held := held, catchUp := catchUp } } with
    time := { road.time with tickRaised := true } }

/-- Tick 1: the fall rate takes 87,040 to 86,528. -/
theorem test_tick_falls :
    (after .dimmingTick (ticking .run 87040 false)).faces[(2 : Fin 8)].level.held = 86528 := by decide +kernel
/-- R69: a tick that no command has taken is taken before the next 1 ms event. -/
theorem test_raised_tick_is_not_lost :
    (ticking .run 87040 false).settleTime.faces[(2 : Fin 8)].level.held = 86528 := by decide +kernel
/-- Tick 5: the fast rate's last step lands on 76,800 and clears the catch-up flag. -/
theorem test_tick_catches_up :
    let x := (after .dimmingTick (ticking .run 77824 true)).faces[(2 : Fin 8)].level
    x.held = 76800 ∧ x.catchUp = false ∧ x.target = 300 := by decide +kernel
/-- A write of DARK. -/
theorem test_dark :
    let x := (after (.dark 2 false 0) (ticking .run 76800 false)).faces[(2 : Fin 8)]
    x.mode = .dark ∧ x.level = { held := 0, catchUp := false, light := none, curve := 0, cap := 0, target := 0 } := by
  decide +kernel

/-! ### Chapter 7 -/

/-- The pixel of frame k + 1: R 1,000, G 512, B 3 and flag field 2 under factor 307 and trim 240. -/
theorem test_pixel_is_scaled :
    let t := scan2.takeRead (.pixel 2 .A 200 40 7) 0xBE880003
    t.bus.toController = some 0x84609000 ∧ t.faces[(2 : Fin 8)].pixel.sumIn = 75 + 1515 ∧
      t.faces[(2 : Fin 8)].pixel.sumOut = 6 + 106 := by decide +kernel
/-- The frame start of k + 1, completing k at Q 338. -/
theorem test_frame_completes :
    let x := ((roadFace 2 fun x =>
      { scanning x with
        level := { x.level with held := 86528 }
        pixel := { x.pixel with frameOpen := true, count := 32768, sumIn := 39321600, sumOut := 3188736 } }).takeRead
          (.pixel 2 .A 0 0 0) 0).faces[(2 : Fin 8)].pixel
    x.aplIn = 400 ∧ x.aplOut = 32 ∧ x.aplFactor = 307 ∧ x.factor = 307 := by decide +kernel
/-- The flip frame by day: F_apl 204 and the excursion of 589. -/
theorem test_apl_excursion :
    let t := (roadFace 2 fun x =>
      { scanning x with
        scan := { (scanning x).scan with linesSeen := 128 }
        level := { x.level with held := 1048320 }
        pixel := { x.pixel with frameOpen := true, count := 32768, sumIn := 58982400, sumOut := 57950208 } }).takeRead
          (.pixel 2 .A 0 0 0) 0
    t.faces[(2 : Fin 8)].pixel.factor = 204 ∧ records t = [(1, 2, 3, .occurrence, 589)] := by decide +kernel

/-! ### Chapter 8 -/

/-- Face 0 displaying a buffer, with its monitor as the worked sequence has it, at a stamp. -/
def watching (b : Buffer) (st : ScanMode) (lines : Nat) (lastFlip stamp : Stamp) (timer : Timer) : State :=
  { roadFace 0 fun x =>
      { x with scan := { state := st, displayed := b, lastLine := 180, linesSeen := lines, lastFlip := lastFlip
                         timer := timer, liveWrites := 1 } } with
    time := { road.time with stamp := stamp } }

/-- 511,900: PARTIAL FRAME 181, then DWELL SHORT 370. -/
theorem test_flip_too_soon :
    let t := (watching .B .scanning 181 508200 511900 (.running 180)).takeRead (.pixel 0 .A 0 0 0) 0
    records t = [(1, 0, 4, .occurrence, 181), (1, 0, 2, .occurrence, 370)] ∧
      t.faces[(0 : Fin 8)].scan.lastFlip = 511900 := by decide +kernel
/-- 515,200: the stall. -/
theorem test_stall :
    let t := after (.stallTimerExpiry 0) (watching .A .scanning 121 511900 515200 (.running 0))
    records t = [(1, 0, 1, .onset, 0)] ∧ t.faces[(0 : Fin 8)].scan.state = .stalled := by decide +kernel
/-- 515,640: the SCAN STALL clear, then DWELL SHORT 374. -/
theorem test_restarted_scan :
    records ((watching .A .stalled 121 511900 515640 .stopped).takeRead (.pixel 0 .B 0 0 0) 0) =
      [(1, 0, 1, .clear, 0), (1, 0, 2, .occurrence, 374)] := by decide +kernel
/-- R167: a monitor restart sets every face's live-write count 0; a face that is not configured keeps its frame. -/
theorem test_restart_every_face :
    let s := roadFace 1 scanning
    let t := after .monitorRestart (s.modFace 1 fun x => { x with scan := { x.scan with liveWrites := 7 } })
    t.configured 1 = false ∧ t.faces[(1 : Fin 8)].scan.liveWrites = 0 ∧
      t.faces[(1 : Fin 8)].scan.state = .noSignal ∧ t.faces[(1 : Fin 8)].pixel = s.faces[(1 : Fin 8)].pixel := by
  decide +kernel
/-- 509,000 and 509,100: a write to the buffer on show counts, one to the other does not. -/
theorem test_live_writes :
    let s := watching .B .scanning 2 508200 509000 (.running 100)
    (s.takeWrite (.pixel 0 .A 0 40 0) 0 0).faces[(0 : Fin 8)].scan.liveWrites = 1 ∧
      (s.takeWrite (.pixel 0 .B 0 250 12) 0 0b1100).faces[(0 : Fin 8)].scan.liveWrites = 2 := by decide +kernel

/-! ### Chapter 9 -/

/-- 121,000: the bytes 69, 1, 3, 65, 117 report OPEN: an OPEN LEDS onset of 3. -/
theorem test_tile_open :
    records (after (.tileFrameArrival 69 1 3 65 117) road) = [(3, 69, 16, .onset, 3)] := by decide +kernel
/-- 140,000: the tile speaks again: SILENT clear, then HOT clear with code 70. -/
theorem test_tile_speaks_again :
    records (after (.tileFrameArrival 69 1 7 70 108)
      (road.setTile 2 5 { heard := true, status := 0b0101, openCount := 7, temp := 128, silent := true, timer := .stopped })) =
      [(3, 69, 20, .clear, 0), (3, 69, 18, .clear, 70)] := by decide +kernel
/-- 133,000: the silent timer's expiry. -/
theorem test_tile_silent :
    records (after (.silentTimerExpiry 2 5)
      (road.setTile 2 5 { heard := true, status := 0b0101, openCount := 7, temp := 128, silent := false
                          timer := .running 0 })) = [(3, 69, 20, .onset, 0)] := by decide +kernel

/-! ### Chapter 10 -/

/-- 515,720: the fourth clean completion releases the false unlatched cause, and not a latched one. -/
theorem test_clean_frames :
    (CauseState.completed { blank := [⟨1, 0, false, false⟩], derate := [], clean := 3 } 4).blank = [] ∧
      CauseState.completed { blank := [⟨1, 0, false, true⟩], derate := [], clean := 3 } 4 =
        { blank := [⟨1, 0, false, true⟩], derate := [], clean := 0 } := by decide +kernel
/-- A TILE HOT onset under the default actions takes slot 0 of an IDLE writer at its own event (R159), and derates face 2. -/
theorem test_record_derates :
    let t := after .record { road with inbox := [.record rec1] }
    t.report.writer = some (rec1, 0) ∧ t.report.queue = [] ∧ t.faces[(2 : Fin 8)].causes.derate = [⟨18, 69, true, false⟩] ∧
      t.faces[(0 : Fin 8)].causes = .reset := by decide +kernel

/-- R151: the condition of a SCAN STALL cause is false at the entry to DARK, whatever records wait. -/
theorem test_stall_ends_at_once :
    let s := roadFace 2 fun x => { x.stall with causes := { x.causes with blank := [⟨1, 2, true, false⟩] } }
    let t := after (.dark 2 false 0) { s with inbox := [.record rec1] }
    t.faces[(2 : Fin 8)].causes.blank = [⟨1, 2, false, false⟩] ∧ t.inbox = [.record rec1] := by decide +kernel

/-! ### Chapter 11 -/

/-- A slot with the filter of the worked sequence (source kind TILE). -/
def tileSlot (c : SlotCode) (r : Option Record) (former : Option Former) : Slot :=
  { code := c, former := former, filterKey := 0x6000, filterMask := 0xE000, record := r, overwrites := 0 }

/-- Three slots as given, the others INACTIVE. -/
def slots3 (a b c : Slot) : Vector Slot 32 :=
  (((tabulate fun _ => { Slot.reset with code := .inactive }).set 0 a).set 1 b).set 2 c

/-- The write end of r1 with r2 and more waiting, slot 1 locked. -/
def writing1 : State :=
  { road with
    report := { Report.reset with
      queue := [rec1, rec1, rec1], writer := some (rec1, 0), lock := some 1
      slots := slots3 (tileSlot .busy none (some ⟨.empty, 0⟩)) (tileSlot .full (some rec1) none)
        (tileSlot .full (some rec1) none) } }

/-- Write end of r1: slot 0 FULL; the choice for r2 passes over the locked slot 1 and takes slot 2. -/
theorem test_write_end_and_choice :
    let p := (after .writeEnd writing1).report
    p.slots[(0 : Fin 32)].code = .full ∧ p.slots[(2 : Fin 32)].code = .busy ∧ p.writer = some (rec1, 2) ∧
      p.queue.length = 2 := by decide +kernel
/-- The last write end: slot 2 OVERRUN with count 3. -/
theorem test_overrun_count :
    let p := (after .writeEnd { writing1 with
      report := { writing1.report with
        queue := [], writer := some (rec1, 2)
        slots := slots3 (tileSlot .empty none none) (tileSlot .full (some rec1) none)
          (tileSlot .busy none (some ⟨.overrun, 2⟩)) } }).report
    p.slots[(2 : Fin 32)].code = .overrun ∧ p.slots[(2 : Fin 32)].overwrites = 3 := by decide +kernel
/-- The host's header read of slot 0 moves the lock. -/
theorem test_header_read_moves_the_lock :
    (after (.headerRead 0) (after .writeEnd writing1)).report.lock = some 0 := by decide +kernel
/-- The acknowledgment of slot 0 empties it and ends its lock. -/
theorem test_acknowledgment :
    let p := (after (.acknowledgment 0 0) (after (.headerRead 0) (after .writeEnd writing1))).report
    p.slots[(0 : Fin 32)].code = .empty ∧ p.lock = none := by decide +kernel
/-- 12.5: the key of tile 69's OPEN LEDS records. -/
theorem test_record_key : recordKey .tile 69 16 = 0x68B0 := by decide

/-! ### Witnesses: for each statement that has hypotheses, states and operands that meet them

Each theorem `witness_<Name>` belongs to the statement `Obligations.<Name>`. -/

/-- A state with another store state. -/
def inStore (x : StoreState) (s : State) : State := { s with tracker := { s.tracker with store := x } }

/-- A state with commands waiting. -/
def waiting (cs : List Instr) (s : State) : State := { s with pending := cs }

/-- The prescaler at a count, under a CLK code. -/
def counted (n : Nat) (clk : Bool) : State :=
  { released with straps := some { straps1 with clk := clk }, time := { released.time with prescaler := n } }

theorem witness_StepRunsTheFrontCommand :
    (waiting [.noOperation, .choice] released).pending = .noOperation :: [.choice] := rfl
theorem witness_IdleStepIsOneReferenceClockCycle :
    State.reset.pending = [] ∧ State.reset.inReset = true ∧ (counted 24998 false).pending = [] ∧
      (counted 24998 false).inReset = false ∧ (counted 24998 false).NothingDue ∧
      (counted 24998 false).time.prescaler + 1 < (if (counted 24998 false).strapImage.clk then 50000 else 25000) ∧
      (if (counted 24999 false).strapImage.clk then 50000 else 25000) ≤ (counted 24999 false).time.prescaler + 1 ∧
      (counted 49998 true).time.prescaler + 1 < (if (counted 49998 true).strapImage.clk then 50000 else 25000) ∧
      (if (counted 49999 true).strapImage.clk then 50000 else 25000) ≤ (counted 49999 true).time.prescaler + 1 := by
  and_intros <;> decide +kernel
theorem witness_ResetCommandsGiveTheResetValues : State.reset.inReset = true ∧ released.inReset = false := by
  and_intros <;> decide +kernel
theorem witness_DefaultTablesAreThoseOfTheRule : 3 ≤ (3 : Fin 17).val ∧ (1 : Fin 4) ≠ 0 := by decide
theorem witness_InResetOnlyTheBusLinesPass :
    State.reset.inReset = true ∧ isReset .oneMsEvent = false ∧ straps1 ∈ released.straps := by
  and_intros <;> decide +kernel
theorem witness_OpenCommand :
    writing.takesBus = true ∧ writing.InboxOk ∧ writing.RestartOk ∧ writing.tracker.banks[(0 : Fin 4)].isOpen = true := by
  and_intros <;> decide +kernel
theorem witness_CloseAndRefreshCommands :
    writing.takesBus = true ∧ (withWrite 2 3 true writing).takesBus = true ∧
      (withWrite 2 3 true writing).tracker.burst.map (·.1) = some 0 ∧ reading.takesBus = true ∧ reading.InboxOk ∧
      reading.RestartOk := by
  and_intros <;> decide +kernel
theorem witness_ModeLoadCommand :
    writing.takesBus = true ∧ writing.InboxOk ∧
      codesValid { length := 7, interleaved := false, latency := 3, writeSingle := true } = true ∧
      (7, BurstLength.fullRow) ∈ [(0, BurstLength.one), (1, .two), (2, .four), (3, .eight), (7, .fullRow)] ∧ (7#3).toNat = 7 ∧
      codesValid { length := 0, interleaved := true, latency := 2, writeSingle := false } = true ∧
      (0#3).toNat = 0 ∧
      codesValid { length := 7, interleaved := true, latency := 3, writeSingle := false } = false ∧
      codesValid { length := 4, interleaved := false, latency := 2, writeSingle := false } = false ∧
      codesValid { length := 3, interleaved := false, latency := 4, writeSingle := false } = false := by
  and_intros <;> decide +kernel
theorem witness_SleepCommands :
    scan2.takesBus = true ∧ scan2.InboxOk ∧ (inStore .asleep scan2).inReset = false ∧
      (inStore .asleep scan2).tracker.store = .asleep := by
  and_intros <;> decide +kernel
theorem witness_SuspendResumeStopAndNoOperation :
    writing.takesBus = true ∧ writing.RestartOk ∧ (inStore .suspended writing).inReset = false ∧
      (inStore .suspended writing).tracker.store = .suspended := by
  and_intros <;> decide +kernel

/-- The tracker of the first worked sequence after p2: E1 ended at two beats, E2 in flight. -/
def twoEntries : State := withQueue [entry1 2 0 false, entry2 1 0 true] [4, 5, 6] 3 true reading

theorem witness_EndedBurstKeepsItsIssuedBeats :
    twoEntries.tracker.Ok ∧ entry1 2 0 false ∈ twoEntries.tracker.queue ∧ (entry1 2 0 false).issuing = false ∧
      entry2 1 0 true ∈ twoEntries.tracker.queue ∧ (entry2 1 0 true).issuing = true ∧
      (entry2 1 0 true).returned < (entry2 1 0 true).issued := by
  and_intros <;> decide +kernel
theorem witness_ReadCommand : reading.takesBus = true ∧ reading.InboxOk := by and_intros <;> decide +kernel
theorem witness_WriteCommand : writing.takesBus = true ∧ writing.InboxOk := by and_intros <;> decide +kernel

/-- E2 with one beat left to issue at position p5. -/
def lastOfE2 : State := withQueue [entry2 3 1 true] [7, 8] 6 false reading

/-- A write burst whose current position has not issued its beat. -/
def writeDue : State :=
  { withWrite 2 3 true writing with tracker := { (withWrite 2 3 true writing).tracker with beatDone := false } }

theorem witness_BurstBeats_read :
    lastOfE2.takesBus = true ∧ entry2 3 1 true ∈ lastOfE2.tracker.reading ∧ lastOfE2.tracker.write = none ∧
      lastOfE2.tracker.beatDone = false := by
  and_intros <;> decide +kernel
theorem witness_BurstBeats_write :
    writeDue.takesBus = true ∧ writeDue.tracker.write.isSome = true ∧ writeDue.tracker.beatDone = false := by
  and_intros <;> decide +kernel
theorem witness_BurstBeats_last :
    ((2 : Fin 4), true) ∈ lastOfE2.tracker.burst ∧ lastOfE2.tracker.Ok ∧ lastOfE2.tracker.write = none ∧
      entry2 3 1 true ∈ lastOfE2.tracker.reading ∧ (entry2 3 1 true).length = .four ∧ 4 ≤ (entry2 3 1 true).issued + 1 := by
  and_intros <;> decide +kernel
theorem witness_BurstBeats_others :
    twoEntries.takesBus = true ∧ twoEntries.tracker.beatDone = true ∧ twoEntries.tracker.burst ≠ none ∧
      twoEntries.tracker.write = none ∧ entry2 1 0 true ∈ twoEntries.tracker.reading ∧
      (entry2 1 0 true).length = .four ∧ ¬ 4 ≤ (entry2 1 0 true).issued + 1 ∧ reading.takesBus = true ∧ reading.tracker.burst = none := by
  and_intros <;> decide +kernel

/-- E1's last beat about to return, with a restart pending that it lets take effect. -/
def lastReturn (pending : Bool) : State :=
  { withQueue [entry1 4 3 false] [4] 3 true reading with report := { Report.reset with restartPending := pending } }

theorem witness_ReadDataArrivals :
    twoEntries.takesBus = true ∧ twoEntries.tracker.beatDone = true ∧ twoEntries.tracker.due = 4 :: [5, 6] ∧
      4 ≤ twoEntries.tracker.position + 1 ∧ returning twoEntries.tracker.queue = some (entry1 2 0 false) ∧
      (1#4 ≠ 0#4 ∧ twoEntries.report.restartPending = false) := by
  and_intros <;> decide +kernel
theorem witness_ReadDataArrivals_restart :
    (lastReturn true).takesBus = true ∧ (lastReturn true).tracker.beatDone = true ∧ (lastReturn true).tracker.due = 4 :: [] ∧
      4 ≤ (lastReturn true).tracker.position + 1 ∧ returning (lastReturn true).tracker.queue = some (entry1 4 3 false) ∧
      (lastReturn true).report.restartPending = true ∧
      (returnBeat (lastReturn true).tracker.queue).filter ReadEntry.stays = [] := by
  and_intros <;> decide +kernel
/-- A read burst with one beat out, due two positions on. -/
def oneRead : State := withQueue [entry1 1 0 true] [4] 1 true reading
theorem witness_ReadDataArrivals_others :
    (reading.takesBus = true ∧ reading.tracker.arrived = false ∧
        ∀ d ∈ reading.tracker.due.head?, reading.tracker.position + 1 < d) ∧
      (oneRead.takesBus = true ∧ oneRead.tracker.due = 4 :: [] ∧ oneRead.tracker.position + 1 < 4) ∧
      ∃ d ∈ twoEntries.tracker.due.head?, d ≤ twoEntries.tracker.position + 1 := by
  refine ⟨?_, ?_, 4, by decide +kernel, by decide +kernel⟩ <;> decide +kernel
/-- The same state with its next position's data come. -/
def arrivedRead : State := { oneRead with tracker := { oneRead.tracker with arrived := true } }
/-- READ, NO_OPERATION, NO_OPERATION: the burst's beat of the current position not yet issued, its first beat due next. -/
def notIssued : State := [Instr.read 2 0 false, .noOperation, .noOperation].foldl (fun s c => after c s) reading
theorem witness_ReadDataArrivals_notIssued :
    notIssued.takesBus = true ∧ notIssued.tracker.beatDone = false ∧ notIssued.tracker.burst ≠ none ∧
      notIssued.tracker.due.head? = some (notIssued.tracker.position + 1) ∧
      reading.takesBus = true ∧ reading.tracker.due = [] := by
  and_intros <;> decide +kernel
theorem witness_ReadDataArrivals_arrived : arrivedRead.takesBus = true ∧ arrivedRead.tracker.arrived = true := by
  and_intros <;> decide +kernel
theorem witness_PositionBegins :
    (twoEntries.tracker.beatDone = true ∧ ∃ d ∈ twoEntries.tracker.due.head?, d ≤ twoEntries.tracker.position + 1) ∧
      (reading.tracker.burst = none ∧ ∀ d ∈ reading.tracker.due.head?, reading.tracker.position + 1 < d) ∧
      (lastOfE2.tracker.beatDone = false ∧ lastOfE2.tracker.burst ≠ none) := by
  refine ⟨⟨by decide +kernel, 4, by decide +kernel, by decide +kernel⟩, ?_, ?_⟩ <;> decide +kernel
theorem witness_CommandsOutsideAPositionAreNotTaken :
    State.reset.takesBus = false ∧ (inStore .suspended writing).takesBus = false ∧
      (inStore .asleep writing).takesBus = false ∧ writing.tracker.store ≠ .suspended ∧ writing.tracker.store ≠ .asleep ∧
      (inStore .suspended writing).inReset = false ∧ (inStore .suspended writing).tracker.store ≠ .awake ∧
      (inStore .asleep writing).inReset = false ∧ (inStore .asleep writing).tracker.store ≠ .awake := by
  and_intros <;> decide +kernel
theorem witness_BurstColumnsAndWordAddresses :
    (∀ n, some 8 = some n → 7 < n) ∧
      wordAddress true 3 8191 (511#9).toNat = wordAddress true 3 8191 (511#9).toNat := by
  decide +kernel
theorem witness_BeatPlacement :
    road.straps = some straps1 ∧ road.PolicyOk ∧ 2047 < 2048 ∧ road.configured 0 = true ∧
      307199 < road.regions[(0 : Fin 8)].height * road.regions[(0 : Fin 8)].stride ∧
      307199 = road.regions[(0 : Fin 8)].baseA + 307199 ∧
      road.regions[(0 : Fin 8)].baseB.map (· + 307199) = some 1355775 := by
  and_intros <;> decide +kernel
theorem witness_BeatPlacement_other :
    released.straps = some straps1 ∧ released.PolicyOk ∧ (∀ g : Fin 8, released.configured g = false) ∧
      4194303 < Config.serviceBase straps1 ∧ Config.serviceBase straps1 + 4096 ≤ 4198400 ∧
      ∀ g : Fin 8, road.configured g = true → ∀ base ∈ road.regions[g].baseA :: road.regions[g].baseB.toList,
        1355776 < base ∨ base + road.regions[g].height * road.regions[g].stride ≤ 1355776 := by
  and_intros <;> decide +kernel
/-- Face 2 DARK, with its frame abandoned. -/
def dark2 : State := after (.dark 2 false 0) scan2
theorem witness_BeatsByClass :
    (dark2.faces[(2 : Fin 8)].mode = .dark ∧ dark2.faces[(2 : Fin 8)].pixel.frameOpen = false) ∧
      scan2.faces[(2 : Fin 8)].scan.liveWrites ≤ 65535 ∧ road.takesBus = true ∧
      ((9#32).toNat % 8 = 1 ∧ (7#32).toNat % 8 = 7 ∧ 2 ≤ (5#32).toNat % 8) ∧
      (stagedAddr (16 : Fin 2048).val).isSome = true ∧ (stagedAddr (2047 : Fin 2048).val).isNone = true ∧
      12 ≤ (12 : Fin 2048).val ∧ (stagedAddr (12 : Fin 2048).val).isNone = true ∧ 2 ≤ (1034 : Fin 2048).val % 8 := by
  and_intros <;> decide +kernel
theorem witness_StepKeepsTheReadReturnQueue :
    let s := waiting [.read 1 0 false] twoEntries
    (∃ t, step s = .next t) ∧ s.tracker.Ok ∧ s.InboxOk ∧ s.RestartOk := by
  refine ⟨⟨_, rfl⟩, ?_, ?_, ?_⟩ <;> decide +kernel
theorem witness_ReadBeatsNeverBrighten :
    scan2.FacesOk ∧ ∀ f : Fin 8, ∀ z : Fin 16, scan2.policy.active.trim f z ≤ 256 := by
  and_intros <;> decide +kernel
theorem witness_ScaledWord : 4096 ≤ 4096 ∧ 0 ≤ 4096 := by decide
theorem witness_PixelOfTheFrameInProgress :
    scan2.configured 2 = true ∧ scan2.faces[(2 : Fin 8)].mode ≠ .dark ∧ scan2.faces[(2 : Fin 8)].scan.state = .scanning ∧
      scan2.faces[(2 : Fin 8)].scan.lastLine ≤ 40 ∧ scan2.faces[(2 : Fin 8)].pixel.frameOpen = true := by
  and_intros <;> decide +kernel
theorem witness_FrameStart :
    road.configured 2 = true ∧ road.faces[(2 : Fin 8)].mode ≠ .dark ∧ road.InboxOk ∧
      road.faces[(2 : Fin 8)].scan.state ≠ .scanning ∧ scan2.InboxOk ∧ scan2.configured 2 = true ∧
      scan2.faces[(2 : Fin 8)].mode ≠ .dark ∧ 39 < scan2.faces[(2 : Fin 8)].scan.lastLine ∧
      Buffer.B ≠ scan2.faces[(2 : Fin 8)].scan.displayed := by
  and_intros <;> decide +kernel
theorem witness_StagingWrites :
    road.takesBus = true ∧ (16 : Fin 2048).val = 16 + 16 * (0 : Fin 8).val + (0 : Fin 9).val ∧
      road.policy.locked .F = false ∧ (502 : Fin 2048).val = 496 + (6 : Fin 7).val ∧ road.policy.locked .G = false ∧
      (committing 1300000).takesBus = true ∧
      (376 : Fin 2048).val = 336 + 16 * (2 : Fin 8).val + (8 : Fin 16).val ∧
      (committing 1300000).policy.locked .Z = true ∧ (committing 1300000).policy.status.lost ≤ 255 := by
  and_intros <;> decide +kernel
theorem witness_TimeWordAndModeDeclaration :
    released.takesBus = true ∧ released.InboxOk ∧ 1#4 ≠ 0#4 ∧ (0x42#32).toNat / 16 % 8 ∉ [2, 3] ∧
      (0x32#32).toNat % 8 = 2 ∧ (0x32#32).toNat / 16 % 8 ∈ [2, 3] := by
  and_intros <;> decide +kernel
theorem witness_CommitRequests :
    road.takesBus = true ∧ road.policy.status.state ≠ .inFlight ∧ (committing 1300000).takesBus = true ∧
      (committing 1300000).policy.status.state = .inFlight ∧ (committing 1300000).policy.refused ≤ 255 := by
  and_intros <;> decide +kernel
theorem witness_CommitEnds :
    State.reset.inReset = true ∧ road.policy.status.state ≠ .inFlight ∧ (committing 1300000).inReset = false ∧ (committing 1300000).straps = some straps1 ∧
      (committing 1300000).policy.status.state = .inFlight ∧
      (resultingSet 0b001001 (committing 1300000).policy.staging (committing 1300000).policy.active).validate
        (Config.serviceBase straps1) = some (.faceOverlap, .F) ∧
      (resultingSet 0b001001 (committing 2097152).policy.staging (committing 2097152).policy.active).validate
        (Config.serviceBase straps1) = none := by
  and_intros <;> decide +kernel

/-- The road with a commit of section F in flight that gives face 2 another record. -/
def recommitting (words : Vector Word 9) : State :=
  { road with
    policy := { road.policy with
      staging := { roadTables with faces := roadTables.faces.set 2 words }
      commitWord := { mask := 0b000001, seq := 19 }
      status := { seq := 19, state := .inFlight, failure := none, lost := 0 } } }

/-- Face 2 STALLED, with the onset of its stall and a tile record waiting. -/
def stalled2 : State := { roadFace 2 FaceState.stall with inbox := [.record (road.mkRecord .face 2 1 .onset 0), .record rec1] }

/-- The common hypotheses of a switch. -/
abbrev mayTake (s : State) : Prop :=
  (s.inReset = false ∧ s.straps = some straps1) ∧ s.policy.status.state = .inFlight ∧ s.PolicyOk ∧
    s.commitFailure = none

theorem witness_SwitchAnnouncements_configured :
    mayTake (committing 2097152) ∧ (committing 2097152).configured 2 = false ∧
      ((after .switch (committing 2097152)).policy.active.face 2).enabled = true := by
  and_intros <;> decide +kernel
theorem witness_SwitchAnnouncements_unconfigured :
    mayTake (recommitting (tabulate fun _ => 0)) ∧ (recommitting (tabulate fun _ => 0)).configured 2 = true ∧
      ((after .switch (recommitting (tabulate fun _ => 0))).policy.active.face 2).enabled = false := by
  and_intros <;> decide +kernel
theorem witness_SwitchAnnouncements_changed :
    mayTake (recommitting (face2 2359296)) ∧ (recommitting (face2 2359296)).configured 2 = true ∧
      ((after .switch (recommitting (face2 2359296))).policy.active.face 2).enabled = true ∧
      (after .switch (recommitting (face2 2359296))).policy.active.face 2 ≠
        (recommitting (face2 2359296)).policy.active.face 2 ∧
      (recommitting (face2 2359296)).inbox = [] := by
  and_intros <;> decide +kernel
/-- The same commit with face 2 STALLED and the onset of its stall still waiting. -/
def restalled : State :=
  { recommitting (face2 2359296) with faces := stalled2.faces, inbox := stalled2.inbox }
theorem witness_SwitchAnnouncements_stalled :
    mayTake restalled ∧ restalled.configured 2 = true ∧ restalled.faces[(2 : Fin 8)].scan.state = .stalled ∧
      ((after .switch restalled).policy.active.face 2).enabled = true ∧
      (after .switch restalled).policy.active.face 2 ≠ restalled.policy.active.face 2 ∧
      (∃ n ∈ restalled.inbox, n.isStallOnset 2 = true) ∧ .stallEnded 2 ∈ (after .switch restalled).inbox := by
  and_intros <;> decide +kernel
theorem witness_SwitchAnnouncements_none :
    mayTake (recommitting (face2 2359296)) ∧
      (after .switch (recommitting (face2 2359296))).policy.active.face 0 =
        (recommitting (face2 2359296)).policy.active.face 0 ∧
      (recommitting (face2 2359296)).configured 1 = false ∧
      ((after .switch (recommitting (face2 2359296))).policy.active.face 1).enabled = false := by
  and_intros <;> decide +kernel
theorem witness_FaceModeWrites :
    road.takesBus = true ∧ road.configured 2 = true ∧ road.configured 1 = false ∧ 8#4 ≠ 0#4 := by
  and_intros <;> decide +kernel
theorem witness_DarkAndRelease :
    scan2.takesBus = true ∧ scan2.configured 2 = true ∧ scan2.faces[(2 : Fin 8)].mode ≠ .dark ∧
      scan2.faces[(2 : Fin 8)].scan.state ≠ .stalled := by
  and_intros <;> decide +kernel
theorem witness_DarkAndRelease_stalled :
    let s := roadFace 2 FaceState.stall
    s.takesBus = true ∧ s.configured 2 = true ∧ s.faces[(2 : Fin 8)].mode ≠ .dark ∧
      s.faces[(2 : Fin 8)].scan.state = .stalled ∧ s.inbox = [] := by
  and_intros <;> decide +kernel
theorem witness_DarkAndRelease_waiting :
    stalled2.faces[(2 : Fin 8)].scan.state = .stalled ∧
      stalled2.inbox = [] ++ .record (road.mkRecord .face 2 1 .onset 0) :: [.record rec1] ∧
      (road.mkRecord .face 2 1 .onset 0).key.toNat = 8193 + 32 * 2 ∧ rec1.key.toNat ≠ 8193 + 32 * 2 := by
  and_intros <;> decide +kernel
theorem witness_DarkAndRelease_dark :
    let s := roadFace 2 fun x => x.modeWrite .dark false
    s.takesBus = true ∧ s.configured 2 = true ∧ s.faces[(2 : Fin 8)].mode = .dark := by
  and_intros <;> decide +kernel
theorem witness_MonitorRestarts :
    (reading.takesBus = true ∧ (1#32).getLsbD 0 = true ∧ reading.report.restartPending = false ∧
        reading.tracker.queue = []) ∧
      (twoEntries.takesBus = true ∧ twoEntries.report.restartPending = false ∧ twoEntries.tracker.queue ≠ []) ∧
      ((lastReturn true).takesBus = true ∧ (lastReturn true).report.restartPending = true) ∧
      reading.inReset = false := by
  and_intros <;> decide +kernel
theorem witness_ReservedWrites :
    road.takesBus = true ∧ (Instr.reservedWrite 12 1 0).wellFormed = true ∧
      (Instr.reservedWrite 4095 1 0).wellFormed = true ∧ (Instr.reservedWrite 3082 1 0).wellFormed = true := by
  and_intros <;> decide +kernel
theorem witness_StepKeepsTheActiveTablesValid :
    (committing 2097152).PolicyOk ∧ ∃ t, step (waiting [.switch] (committing 2097152)) = .next t := by
  refine ⟨?_, _, rfl⟩; and_intros <;> decide +kernel
theorem witness_OneMillisecondEvent :
    (atTime 10079 59999 released).inReset = false ∧ (atTime 10079 59999 released).TimeOk ∧
      (atTime 10079 59999 released).NothingDue := by
  and_intros <;> decide +kernel
theorem witness_DimmingTick :
    (ticking .run 87040 false).inReset = false ∧ (ticking .run 87040 false).time.tickRaised = true ∧
      (ticking .run 87040 false).configured 1 = false ∧ (ticking .run 87040 false).configured 2 = true ∧
      (ticking .run 87040 false).faces[(2 : Fin 8)].mode ≠ .dark := by
  and_intros <;> decide +kernel

/-- The curve of the worked example. -/
def curve4 : List (Nat × Nat) := [(0, 120), (200, 400), (2000, 1800), (20000, 4095)]

theorem witness_CurveLevel :
    curve4.head? = some (0, 120) ∧ curve4.getLast? = some (20000, 4095) ∧ pointsOk curve4 = true ∧ 0 ≤ (0, 120).1 ∧
      (20000, 4095).1 ≤ 20000 ∧ curve4[1]? = some (200, 400) ∧ curve4[1 + 1]? = some (2000, 1800) ∧
      (200, 400).1 ≤ 200 ∧ 1999 < (2000, 1800).1 ∧ (0, 120).1 ≤ 19999 ∧ 19999 < (20000, 4095).1 := by
  decide

/-- The road with two used entries for face 2: 300 from minute 360, 500 from minute 1,290. -/
def curfew (minute : Nat) : State :=
  { atTime minute 0 road with
    policy := { road.policy with
      active := { roadTables with
        schedule := (roadTables.schedule.set 0 #v[0x01680401, 300]).set 1 #v[0x050A0401, 500] } } }

/-- The two entries. -/
def early : SchedEntry := ⟨true, 0b100, 360, 300⟩
/-- The later entry. -/
def late : SchedEntry := ⟨true, 0b100, 1290, 500⟩

theorem witness_CurfewCap_plain :
    road.time.tod.set = false ∧ (curfew 0).time.tod.set = true ∧ (curfew 0).policy.active.entriesOf 0 = [] := by
  and_intros <;> decide +kernel
theorem witness_CurfewCap_in_force :
    (curfew 1289).policy.active.entriesOf 2 = [early, late] ∧ ([early, late].map (·.start)).Nodup ∧
      early.start ≤ (curfew 1289).time.tod.minute ∧
      ∀ g ∈ [early, late], g.start ≤ (curfew 1289).time.tod.minute → g.start ≤ early.start := by
  and_intros <;> decide +kernel
theorem witness_CurfewCap_week_wrap :
    (curfew 359).policy.active.entriesOf 2 = [early, late] ∧ late ∈ [early, late] ∧
      (∀ g ∈ [early, late], (curfew 359).time.tod.minute < g.start) ∧ ∀ g ∈ [early, late], g.start ≤ late.start := by
  and_intros <;> decide +kernel
theorem witness_SensorFrames :
    (lostChannel 2 7 false).inReset = false ∧ (lostChannel 2 7 false).InboxOk ∧ (lostChannel 2 7 false).LightOk ∧
      (4 + 0 + 0 + 9 + 8 + 10) % 16 = 15 ∧ (4 + 0 + 0 + 9 + 8 + 9) % 16 ≠ 15 := by
  and_intros <;> decide +kernel
theorem witness_FilteredValueAndFaceLight :
    [152, 150] ≠ [] ∧ (lostChannel 2 7 false).LightOk ∧
      (released.setChannel 0 (Channel.reset.good 152 false 0 2000)).LightOk := by
  and_intros <;> decide +kernel

/-- Channel 1, face 2 and tile 5 of face 2 with timers as given. -/
def timers (tm : Timer) : State :=
  let s : State := roadFace 2 fun x => { scanning x with scan := { (scanning x).scan with timer := tm } }
  (s.setChannel 1 { Channel.reset.good 152 false 0 2000 with timer := tm }).setTile 2 5
    { heard := true, status := 0, openCount := 0, temp := 60, silent := false, timer := tm }

theorem witness_TimerExpiries :
    (timers (.running 0)).inReset = false ∧ (timers (.running 0)).InboxOk ∧
      (timers (.running 0)).light.channels[(1 : Fin 4)].timer = .running 0 ∧
      (timers (.running 0)).faces[(2 : Fin 8)].scan.timer = .running 0 ∧
      (timers (.running 0)).faces[(2 : Fin 8)].scan.state = .scanning ∧ (timers (.running 0)).configured 2 = true ∧
      (timers (.running 0)).faces[(2 : Fin 8)].mode ≠ .dark ∧
      (timers (.running 0)).tiles.entries[(2 : Fin 8)][(5 : Fin 32)].timer = .running 0 := by
  and_intros <;> decide +kernel
theorem witness_TimerExpiries_not_due :
    (timers (.running 1)).light.channels[(1 : Fin 4)].timer ≠ .running 0 ∧
      (timers (.running 1)).faces[(2 : Fin 8)].scan.timer ≠ .running 0 ∧
      (timers (.running 1)).tiles.entries[(2 : Fin 8)][(5 : Fin 32)].timer ≠ .running 0 := by
  and_intros <;> decide +kernel
theorem witness_TileFrames :
    road.inReset = false ∧ road.InboxOk ∧ road.tiles.errors ≤ 65535 ∧ road.tiles.discarded ≤ 65535 ∧
      (69 + 1 + 3 + 65 + 117) % 256 = 255 ∧ road.configured (Fin.ofNat 8 (69 / 32)) = true ∧
      (194 + 0 + 0 + 0 + 61) % 256 = 255 ∧ road.configured (Fin.ofNat 8 (194 / 32)) = false ∧
      (69 + 1 + 3 + 65 + 116) % 256 ≠ 255 := by
  and_intros <;> decide +kernel
/-- A record, a completion and the end of a stall behind it, and another record. -/
def handed : State := { road with inbox := [.record rec1, .completion 2, .stallEnded 0, .record rec1] }
theorem witness_RecordTaken :
    handed.inReset = false ∧ handed.inbox = .record rec1 :: ([.completion 2, .stallEnded 0] ++ [.record rec1]) ∧
      (∀ n ∈ [Notice.completion 2, .stallEnded 0], n.isRecord = false) ∧
      (∀ n ∈ [Notice.record rec1].head?, n.isRecord = true) ∧ handed.report.drop ≤ 65535 := by
  and_intros <;> decide +kernel
theorem witness_RecordTaken_writing : writing1.report.writer.isSome = true := by decide +kernel
theorem witness_RecordContents :
    (255 < 256 ∧ 31 < 32 ∧ 65535 < 65536) ∧
      ∃ t, exec (.openBank 0 8191) writing = .next t ∧
        .record (writing.mkRecord .bus 0 25 .occurrence 2) ∈ t.inbox ∧
        .record (writing.mkRecord .bus 0 25 .occurrence 2) ∉ writing.inbox := by
  refine ⟨by decide, _, rfl, ?_, ?_⟩ <;> decide +kernel
theorem witness_CommitChecks :
    (committing 1300000).policy.staging.validate 4194304 = some (.faceOverlap, .F) ∧
      roadTables.validate 4194304 = none := by
  and_intros <;> decide +kernel
theorem witness_PolicyPageReads :
    road.TimeOk ∧ road.tracker.Ok ∧ road.configured 2 = true ∧ road.configured 1 = false := by
  and_intros <;> decide +kernel
theorem witness_ItemWords :
    road.straps = some straps1 ∧ road.FacesOk ∧ road.LightOk ∧ road.TilesOk ∧ road.PolicyOk ∧ road.TimeOk ∧
      road.tracker.Ok ∧ road.report.Ok ∧ road.policy.refused ≤ 255 ∧ road.policy.status.lost ≤ 255 ∧
      ((List.finRange 8).filter fun g => road.configured g)[(1 : Fin 8).val]? = some 2 := by
  and_intros <;> decide +kernel
theorem witness_CauseRules :
    (⟨18, 69, false, false⟩ : Cause) ∈ ([⟨18, 69, false, false⟩] : List Cause) ∧ Action.report ≠ .blank ∧
      Action.report ≠ .derate := by
  and_intros <;> decide
theorem witness_FrameCompletions :
    (255 ≤ 255 ∧ CauseState.reset.blank = [] ∧ CauseState.reset.derate = []) ∧
      (∃ y ∈ [(⟨1, 0, true, false⟩ : Cause)] ++ [], y.cond = true) ∧
      [(⟨1, 0, false, true⟩ : Cause)] ++ [] ≠ [] ∧ ∀ y ∈ [(⟨1, 0, false, true⟩ : Cause)] ++ [], y.cond = false := by
  and_intros <;> decide +kernel
theorem witness_FaultLine : State.reset.inReset = true ∧ State.reset.HeldOk := by and_intros <;> decide +kernel

/-- The three slots at a choice: slot 0 as given, slot 1 FULL and locked, slot 2 FULL, two records queued. -/
def choosing (c : SlotCode) : State :=
  { road with
    report := { Report.reset with
      queue := [rec1, rec1], lock := some 1
      slots := slots3 (tileSlot c none none) (tileSlot .full (some rec1) none) (tileSlot .full (some rec1) none) } }

/-- What a candidate slot is, as the statement says it. -/
abbrev candidate (p : Report) (r : Record) (j : Fin 32) : Prop :=
  (∀ n : Fin 16, p.slots[j].filterMask.getLsbD n.val = true →
    r.key.getLsbD n.val = p.slots[j].filterKey.getLsbD n.val) ∧
  p.slots[j].code ≠ .inactive ∧ p.slots[j].code ≠ .busy ∧ p.lock ≠ some j

theorem witness_SlotWriter_empty :
    (choosing .empty).inReset = false ∧ (choosing .empty).report.writer = none ∧
      (choosing .empty).report.queue = rec1 :: [rec1] ∧ candidate (choosing .empty).report rec1 0 ∧
      (choosing .empty).report.slots[(0 : Fin 32)].code = .empty := by
  and_intros <;> decide +kernel
theorem witness_SlotWriter_highest :
    (choosing .inactive).report.writer = none ∧ candidate (choosing .inactive).report rec1 2 ∧
      (∀ j : Fin 32, candidate (choosing .inactive).report rec1 j → (choosing .inactive).report.slots[j].code ≠ .empty) ∧
      ∀ j : Fin 32, 2 < j → ¬ candidate (choosing .inactive).report rec1 j := by
  and_intros <;> decide +kernel
theorem witness_SlotWriter_none :
    let p : Report := { Report.reset with queue := [rec1], slots := tabulate fun _ => { Slot.reset with code := .inactive } }
    p.writer = none ∧ p.queue = rec1 :: [] ∧ (∀ j : Fin 32, ¬ candidate p rec1 j) ∧ p.drop ≤ 65535 := by
  and_intros <;> decide +kernel
theorem witness_SlotWriter_write_end :
    writing1.report.writer = some (rec1, 0) ∧ (⟨.empty, 0⟩ : Former) ∈ writing1.report.slots[(0 : Fin 32)].former ∧
      writing1.report.Ok ∧ road.report.queue = [] ∧ road.report.Ok := by
  and_intros <;> decide +kernel
theorem witness_HostSlotWrites :
    writing1.takesBus = true ∧ writing1.report.slots[(1 : Fin 32)].code ≠ .busy ∧
      writing1.report.slots[(1 : Fin 32)].code ≠ .empty ∧ writing1.report.slots[(0 : Fin 32)].code = .busy ∧
      writing1.report.slots[(31 : Fin 32)].code = .inactive ∧ road.report.slots[(0 : Fin 32)].code = .empty ∧
      road.takesBus = true := by
  and_intros <;> decide +kernel
theorem witness_ReportPageChain :
    ((List.finRange 8).filter fun g => road.configured g)[(0 : Fin 8).val]? = some 0 ∧
      ((List.finRange 8).filter fun g => road.configured g)[(1 : Fin 8).val]? = some 2 ∧
      ((List.finRange 8).filter fun g => road.configured g).length = 2 ∧ 32 + 48 * 2 + 64 ≤ 192 ∧ 1288 ≤ 1288 := by
  and_intros <;> decide +kernel
theorem witness_LockReadsAndSlotWords :
    writing1.takesBus = true ∧ writing1.report.slots[(0 : Fin 32)].Ok ∧ writing1.report.slots[(0 : Fin 32)].code = .busy ∧
      writing1.report.slots[(1 : Fin 32)].Ok ∧ writing1.report.slots[(1 : Fin 32)].code = .full := by
  and_intros <;> decide +kernel
theorem witness_StepKeepsTheReportBlock :
    writing1.report.Ok ∧ (∃ t, step (waiting [.writeEnd] writing1) = .next t) ∧ writing1.report.lock = some 1 ∧
      (after .writeEnd writing1).report.lock = some 1 := by
  refine ⟨?_, ⟨_, rfl⟩, ?_, ?_⟩
  · and_intros <;> decide +kernel
  · decide +kernel
  · decide +kernel
theorem witness_StepKeepsTheMonitors :
    scan2.PolicyOk ∧ scan2.TimeOk ∧ scan2.LightOk ∧ scan2.TilesOk ∧ scan2.FacesOk ∧
      ∃ t, step (waiting [.dark 2 false 0] scan2) = .next t := by
  refine ⟨?_, ?_, ?_, ?_, ?_, _, rfl⟩ <;> decide +kernel
theorem witness_OnlyTheNamedEventsChange :
    (∃ t, exec .dimmingTick (ticking .run 87040 false) = .next t) ∧ isReset .dimmingTick = false ∧
      Instr.dimmingTick ≠ .oneMsEvent ∧ Instr.dimmingTick ≠ .switch ∧
      (∀ d m b, Instr.dimmingTick ≠ .readBeatReturn d m b) ∧ Instr.choice ≠ .dimmingTick ∧
      released.time.tickRaised = false := by
  refine ⟨⟨_, rfl⟩, rfl, by decide, by decide, (by intro d m b h; cases h), by decide, by decide +kernel⟩

end Sys2Proof.Tests
end

section
/-! SUPPORT. The Bus Tracker by itself: the read-return queue, the burst in flight and what keeps `Tracker.Ok`
(R11 to R17, R19). -/

namespace Sys2Proof.Machine

/-! ### The beats issued and not returned (R16) -/

/-- The beats of a read-return queue that are issued and not returned. -/
def outstanding (q : List ReadEntry) : Nat := (q.map fun e => e.issued - e.returned).sum

@[simp] theorem outstanding_nil : outstanding [] = 0 := rfl

@[simp] theorem outstanding_cons (e : ReadEntry) (q : List ReadEntry) :
    outstanding (e :: q) = e.issued - e.returned + outstanding q := by simp [outstanding]

@[simp] theorem outstanding_append (q r : List ReadEntry) : outstanding (q ++ r) = outstanding q + outstanding r := by
  simp [outstanding]

theorem stays_iff (e : ReadEntry) : e.stays = true ↔ e.issuing = true ∨ e.issued ≠ e.returned := by
  simp [ReadEntry.stays]

theorem mem_staying {e : ReadEntry} {q : List ReadEntry} : e ∈ staying q ↔ e ∈ q ∧ e.stays = true := List.mem_filter

/-- What leaves the queue has no beat outstanding. -/
@[simp] theorem outstanding_staying (q : List ReadEntry) : outstanding (staying q) = outstanding q := by
  induction q with
  | nil => rfl
  | cons e q ih =>
    simp only [staying] at ih
    by_cases h : e.stays = true
    · simp [staying, h, ih]
    · have he : e.issued = e.returned := by simpa using (not_or.mp (mt (stays_iff e).mpr h)).2
      simp [staying, h, ih, he]

/-- A return takes one beat off, where there is one. -/
theorem outstanding_returnBeat (q : List ReadEntry) : outstanding (returnBeat q) = outstanding q - 1 := by
  induction q with
  | nil => rfl
  | cons e q ih =>
    by_cases h : e.returned < e.issued
    · simp only [returnBeat, if_pos h, outstanding_cons]; omega
    · simp only [returnBeat, if_neg h, outstanding_cons, ih]; omega

/-- A return changes one entry, by one beat returned. -/
theorem mem_returnBeat {x : ReadEntry} {q : List ReadEntry} (h : x ∈ returnBeat q) :
    x ∈ q ∨ ∃ e ∈ q, e.returned < e.issued ∧ x = { e with returned := e.returned + 1 } := by
  induction q with
  | nil => exact .inl h
  | cons e q ih =>
    by_cases he : e.returned < e.issued
    · rw [returnBeat, if_pos he, List.mem_cons] at h
      rcases h with rfl | h
      · exact .inr ⟨e, List.mem_cons_self, he, rfl⟩
      · exact .inl (List.mem_cons_of_mem _ h)
    · rw [returnBeat, if_neg he, List.mem_cons] at h
      rcases h with rfl | h
      · exact .inl List.mem_cons_self
      · rcases ih h with h | ⟨y, hy, hlt, rfl⟩
        · exact .inl (List.mem_cons_of_mem _ h)
        · exact .inr ⟨y, List.mem_cons_of_mem _ hy, hlt, rfl⟩

@[simp] theorem returnBeat_length (q : List ReadEntry) : (returnBeat q).length = q.length := by
  induction q with
  | nil => rfl
  | cons e q ih => by_cases h : e.returned < e.issued <;> simp [returnBeat, h, ih]

/-- A return leaves which entries still issue. -/
theorem returnBeat_issuing (q : List ReadEntry) : (returnBeat q).map (·.issuing) = q.map (·.issuing) := by
  induction q with
  | nil => rfl
  | cons e q ih => by_cases h : e.returned < e.issued <;> simp [returnBeat, h, ih]

/-! ### Only the last entry issues -/

/-- That all but the last element have a property, as a relation on the pairs of the list. -/
theorem dropLast_iff_pairwise {α : Type} (p : α → Prop) (l : List α) :
    (∀ a ∈ l.dropLast, p a) ↔ l.Pairwise fun a _ => p a := by
  induction l with
  | nil => simp
  | cons a l ih =>
    cases l with
    | nil => simp
    | cons b l =>
      rw [List.dropLast_cons_of_ne_nil (List.cons_ne_nil b l), List.forall_mem_cons, ih, List.pairwise_cons (a := a)]
      exact ⟨fun h => ⟨fun _ _ => h.1, h.2⟩, fun h => ⟨h.1 b List.mem_cons_self, h.2⟩⟩

/-- Only the last entry of a queue issues. -/
abbrev OnlyLastIssues (q : List ReadEntry) : Prop := ∀ e ∈ q.dropLast, e.issuing = false

theorem onlyLastIssues_iff (q : List ReadEntry) :
    OnlyLastIssues q ↔ (q.map (·.issuing)).Pairwise fun a _ => a = false := by
  rw [List.pairwise_map]; exact dropLast_iff_pairwise _ q

theorem OnlyLastIssues.of_none {q : List ReadEntry} (h : ∀ e ∈ q, e.issuing = false) : OnlyLastIssues q :=
  fun e he => h e (List.mem_of_mem_dropLast he)

theorem OnlyLastIssues.staying {q : List ReadEntry} (h : OnlyLastIssues q) : OnlyLastIssues (staying q) :=
  (dropLast_iff_pairwise _ _).mpr (((dropLast_iff_pairwise _ _).mp h).sublist List.filter_sublist)

theorem OnlyLastIssues.returnBeat {q : List ReadEntry} (h : OnlyLastIssues q) : OnlyLastIssues (returnBeat q) := by
  rw [onlyLastIssues_iff, returnBeat_issuing]; exact (onlyLastIssues_iff q).mp h

theorem OnlyLastIssues.eq_nil {e : ReadEntry} {q : List ReadEntry} (h : OnlyLastIssues (e :: q))
    (he : e.issuing = true) : q = [] := by
  by_contra hq
  have := h e (by rw [List.dropLast_cons_of_ne_nil hq]; exact List.mem_cons_self)
  simp [he] at this

/-! ### The burst in flight (R11 to R14) -/

theorem Tracker.reading_eq_none {t : Tracker} : t.reading = none ↔ ∀ e ∈ t.queue, e.issuing = false := by
  simp [Tracker.reading]

/-- The read entry still issuing is the last of the queue. -/
theorem Tracker.reading_last {t : Tracker} {e : ReadEntry} (h : OnlyLastIssues t.queue) (he : t.reading = some e) :
    ∃ front, t.queue = front ++ [e] ∧ e.issuing = true ∧ ∀ x ∈ front, x.issuing = false := by
  obtain ⟨hi, front, back, hq, hf⟩ := List.find?_eq_some_iff_append.mp he
  have hb : back = [] := by
    by_contra hne
    have := h e (by rw [hq, List.dropLast_append_cons, List.dropLast_cons_of_ne_nil hne]; simp)
    simp [hi] at this
  exact ⟨front, by rw [hq, hb], hi, fun x hx => by simpa using hf x hx⟩

/-- No burst is in flight: no write burst, and no entry that issues. -/
theorem Tracker.burst_eq_none {t : Tracker} : t.burst = none ↔ t.write = none ∧ ∀ e ∈ t.queue, e.issuing = false := by
  unfold Tracker.burst
  cases t.write with
  | none => simp [Tracker.reading]
  | some w => simp

theorem Tracker.burst_of_write {t : Tracker} {w : WriteBurst} (h : t.write = some w) :
    t.burst = some (w.bank, w.autoclose) := by simp [Tracker.burst, h]

theorem Tracker.burst_of_reading {t : Tracker} {e : ReadEntry} (hw : t.write = none) (h : t.reading = some e) :
    t.burst = some (e.bank, e.autoclose) := by simp [Tracker.burst, hw, h]

@[simp] theorem Tracker.stopBurst_banks (t : Tracker) : t.stopBurst.banks = t.banks := rfl

/-- An entry as the end of the burst in flight leaves it (R12). -/
def ReadEntry.stopped (e : ReadEntry) : ReadEntry :=
  if e.issuing then { e with issuing := false, truncated := true } else e

theorem ReadEntry.stopped_of_not_issuing {e : ReadEntry} (h : e.issuing = false) : e.stopped = e := by
  simp [ReadEntry.stopped, h]

theorem ReadEntry.stopped_of_issuing {e : ReadEntry} (h : e.issuing = true) :
    e.stopped = { e with issuing := false, truncated := true } := by simp [ReadEntry.stopped, h]

@[simp] theorem ReadEntry.stopped_issuing (e : ReadEntry) : e.stopped.issuing = false := by
  cases h : e.issuing <;> simp [ReadEntry.stopped, h]
@[simp] theorem ReadEntry.stopped_issued (e : ReadEntry) : e.stopped.issued = e.issued := by
  cases h : e.issuing <;> simp [ReadEntry.stopped, h]
@[simp] theorem ReadEntry.stopped_returned (e : ReadEntry) : e.stopped.returned = e.returned := by
  cases h : e.issuing <;> simp [ReadEntry.stopped, h]

theorem Tracker.stopBurst_queue (t : Tracker) : t.stopBurst.queue = staying (t.queue.map ReadEntry.stopped) := rfl

theorem Tracker.stopBurst_not_issuing (t : Tracker) : ∀ e ∈ t.stopBurst.queue, e.issuing = false := by
  intro e he
  obtain ⟨he, -⟩ := mem_staying.mp he
  obtain ⟨x, -, rfl⟩ := List.mem_map.mp he
  exact x.stopped_issuing

theorem Tracker.stopBurst_burst (t : Tracker) : t.stopBurst.burst = none :=
  Tracker.burst_eq_none.mpr ⟨rfl, t.stopBurst_not_issuing⟩

theorem Tracker.endBurst_of_none {t : Tracker} (e : EndedBy) (h : t.burst = none) : t.endBurst e = t := by
  simp [Tracker.endBurst, h]

/-- A burst that is ended: what is left of it, and its bank where it closes it (R12, R13). -/
theorem Tracker.endBurst_of_some {t : Tracker} (e : EndedBy) {b : Fin 4} {auto : Bool} (h : t.burst = some (b, auto)) :
    t.endBurst e =
      { t.stopBurst with banks := if auto && e.closes b then t.banks.set b .idle else t.banks } := by
  simp only [Tracker.endBurst, h]; split <;> rfl

/-- A command that gives the bank its state itself only stops the burst. -/
theorem Tracker.endBurst_command (t : Tracker) :
    t.endBurst .command = if t.burst.isSome then t.stopBurst else t := by
  cases h : t.burst with
  | none => simp [Tracker.endBurst_of_none, h]
  | some x => obtain ⟨b, auto⟩ := x; simp [Tracker.endBurst_of_some _ h, EndedBy.closes, Tracker.stopBurst]

/-- An ended burst is left as it stopped, but for its bank. -/
theorem Tracker.endBurst_cases (t : Tracker) (e : EndedBy) :
    (t.endBurst e = t ∧ t.burst = none) ∨ ∃ banks, t.endBurst e = { t.stopBurst with banks := banks } := by
  cases h : t.burst with
  | none => exact .inl ⟨Tracker.endBurst_of_none e h, rfl⟩
  | some x => exact .inr ⟨_, Tracker.endBurst_of_some e h⟩

theorem Tracker.endBurst_burst (t : Tracker) (e : EndedBy) : (t.endBurst e).burst = none := by
  rcases t.endBurst_cases e with ⟨h, hb⟩ | ⟨banks, h⟩
  · rw [h, hb]
  · rw [h]; exact t.stopBurst_burst

@[simp] theorem Tracker.endBurst_mode (t : Tracker) (e : EndedBy) : (t.endBurst e).mode = t.mode := by
  rcases t.endBurst_cases e with ⟨h, -⟩ | ⟨banks, h⟩ <;> rw [h]; rfl

@[simp] theorem Tracker.endBurst_beatDone (t : Tracker) (e : EndedBy) : (t.endBurst e).beatDone = t.beatDone := by
  rcases t.endBurst_cases e with ⟨h, -⟩ | ⟨banks, h⟩ <;> rw [h]; rfl

/-- Some bank is OPEN, said of the four and of the list of them. -/
theorem Tracker.anyOpen_eq (t : Tracker) : t.anyOpen = t.banks.toList.any Bank.isOpen := by
  obtain ⟨⟨l⟩, hl⟩ := t
  match l, hl with
  | ⟨[a, b, c, d]⟩, _ => simp [Tracker.anyOpen, Bool.or_assoc]

/-! ### What keeps `Tracker.Ok` (R16, R17) -/

theorem Tracker.Ok.setBanksTo {t : Tracker} (h : t.Ok) (banks : Vector Bank 4) :
    Tracker.Ok { t with banks := banks } := h

theorem Tracker.Ok.setModeTo {t : Tracker} (h : t.Ok) (m : ModeImage) (hm : m.latency = 2 ∨ m.latency = 3) :
    Tracker.Ok { t with mode := m } := ⟨hm, h.2⟩

/-- A tracker with no beat outstanding and no entry. -/
theorem Tracker.ok_of_empty {t : Tracker} (hl : t.mode.latency = 2 ∨ t.mode.latency = 3) (hq : t.queue = [])
    (hd : t.due = []) : t.Ok := by
  refine ⟨hl, ?_⟩
  simp [hq, hd, Tracker.DueOk]

/-- Where no entry issues, each waits for a beat. -/
theorem returned_lt_issued {q : List ReadEntry} (hok : ∀ e ∈ q, e.Ok) (hi : ∀ e ∈ q, e.issuing = false) :
    ∀ e ∈ q, e.returned < e.issued := by
  intro e he
  obtain ⟨hle, hs⟩ := hok e he
  rcases (stays_iff e).mp hs with h | h
  · simp [hi e he] at h
  · omega

/-- Entries that each wait for a beat are not more than the beats. -/
theorem length_le_outstanding {q : List ReadEntry} (h : ∀ e ∈ q, e.returned < e.issued) : q.length ≤ outstanding q := by
  induction q with
  | nil => simp
  | cons e q ih =>
    have h1 := h e List.mem_cons_self
    have h2 := ih fun x hx => h x (List.mem_cons_of_mem _ hx)
    simp only [List.length_cons, outstanding_cons]; omega

/-- Beats that are not due are at most two (R17). -/
theorem Tracker.Ok.due_length_of_not_due {t : Tracker} (h : t.Ok) (hd : t.dueAt (t.position + 1) = false) :
    t.due.length ≤ 2 := by
  obtain ⟨-, -, -, -, -, -, -, ⟨hlen, hdue⟩, -⟩ := h
  have hb : t.beatDone.toNat ≤ 1 := Bool.toNat_le _
  cases hq : t.due with
  | nil => simp
  | cons d ds =>
    have h0 := hdue 0 d (by simp [hq])
    simp [Tracker.dueAt, hq] at hd
    simp only [hq] at h0 hlen
    simp only [Fin.val_zero] at h0
    omega

theorem Tracker.Ok.stopBurst {t : Tracker} (h : t.Ok) : t.stopBurst.Ok := by
  obtain ⟨hl, hok, hsum, -, -, -, -, hdue, hlen⟩ := h
  have hni := t.stopBurst_not_issuing
  have hok' : ∀ e ∈ t.stopBurst.queue, e.Ok := by
    intro e he
    rw [Tracker.stopBurst_queue, mem_staying] at he
    obtain ⟨he, hs⟩ := he
    obtain ⟨x, hx, rfl⟩ := List.mem_map.mp he
    exact ⟨by rw [x.stopped_returned, x.stopped_issued]; exact (hok x hx).1, hs⟩
  have hsum' : outstanding t.stopBurst.queue = t.due.length := by
    rw [Tracker.stopBurst_queue, outstanding_staying, ← hsum]
    simp [outstanding, Function.comp_def]
  refine ⟨hl, hok', hsum', OnlyLastIssues.of_none hni, fun _ => hni, fun _ => returned_lt_issued hok' hni, ?_, hdue, ?_⟩
  · intro _ hany
    obtain ⟨e, he, hi⟩ := List.any_eq_true.mp hany
    simp [hni e he] at hi
  · calc t.stopBurst.queue.length ≤ (t.queue.map ReadEntry.stopped).length := List.length_filter_le _ _
      _ ≤ 3 := by simpa using hlen

theorem Tracker.Ok.endBurst {t : Tracker} (h : t.Ok) (e : EndedBy) : (t.endBurst e).Ok := by
  rcases t.endBurst_cases e with ⟨he, -⟩ | ⟨banks, he⟩ <;> rw [he]
  · exact h
  · exact h.stopBurst.setBanksTo banks

/-- A return of the beat due at the next position keeps each entry of a finished position waiting for a beat: the only
entry is a burst in flight that has a second beat outstanding, or else it leaves with its last. -/
theorem returned_waits {q : List ReadEntry} (hok : ∀ e ∈ q, e.Ok) (hlast : OnlyLastIssues q)
    (hw : ∀ e ∈ q, e.returned < e.issued) (h2 : (q.any fun e => e.issuing) = true → 2 ≤ outstanding q) :
    ∀ e ∈ staying (returnBeat q), e.returned < e.issued := by
  cases q with
  | nil => simp [returnBeat, staying]
  | cons e q =>
    have he := hw e List.mem_cons_self
    rw [returnBeat, if_pos he]
    intro x hx
    obtain ⟨hx, hs⟩ := mem_staying.mp hx
    rcases List.mem_cons.mp hx with rfl | hx
    · rcases (stays_iff _).mp hs with hi | hne
      · have hnil := hlast.eq_nil hi
        subst hnil
        have := h2 (by simpa using hi)
        simp at this ⊢; omega
      · simp at hne ⊢; omega
    · exact hw x (List.mem_cons_of_mem _ hx)

theorem Tracker.Ok.returned {t : Tracker} (h : t.Ok) (hd : t.dueAt (t.position + 1) = true) : t.returned.Ok := by
  obtain ⟨hl, hok, hsum, hlast, hwr, hwait, hnew, ⟨hdlen, hdue⟩, hlen⟩ := h
  obtain ⟨d, ds, hds⟩ : ∃ d ds, t.due = d :: ds := by
    cases hq : t.due with
    | nil => simp [Tracker.dueAt, hq] at hd
    | cons d ds => exact ⟨d, ds, rfl⟩
  have hd' : d ≤ t.position + 1 := by simpa [Tracker.dueAt, hds] using hd
  have hiss : ∀ x ∈ staying (returnBeat t.queue), ∃ e ∈ t.queue, e.issuing = x.issuing := by
    intro x hx
    have hm : x.issuing ∈ (returnBeat t.queue).map (·.issuing) := List.mem_map_of_mem (mem_staying.mp hx).1
    rw [returnBeat_issuing] at hm
    exact List.mem_map.mp hm
  refine ⟨hl, ?_, ?_, OnlyLastIssues.staying (OnlyLastIssues.returnBeat hlast), ?_, ?_, ?_, ⟨?_, ?_⟩, ?_⟩
  · intro x hx
    obtain ⟨hx, hs⟩ := mem_staying.mp hx
    refine ⟨?_, hs⟩
    rcases mem_returnBeat hx with hx | ⟨e, -, hlt, rfl⟩
    · exact (hok x hx).1
    · exact hlt
  · change outstanding (staying (returnBeat t.queue)) = t.due.tail.length
    have hsum : outstanding t.queue = t.due.length := hsum
    rw [outstanding_staying, outstanding_returnBeat, hsum, List.length_tail]
  · intro hw x hx
    obtain ⟨e, he, heq⟩ := hiss x hx
    rw [← heq]; exact hwr hw e he
  · intro hb
    refine returned_waits hok hlast (hwait hb) fun hany => ?_
    have hlast := hnew hb hany
    change 2 ≤ (t.queue.map fun e => e.issued - e.returned).sum
    rw [hsum, hds]
    cases ds with
    | nil => have := hlast d (by simp [hds]); omega
    | cons => simp
  · intro hb hany x hx
    obtain ⟨y, hy, hyi⟩ := List.any_eq_true.mp hany
    obtain ⟨e, he, heq⟩ := hiss y hy
    refine hnew hb (List.any_eq_true.mpr ⟨e, he, heq.trans hyi⟩) x ?_
    change x ∈ t.due.tail.getLast? at hx
    rw [hds, List.tail_cons] at hx
    rw [hds, List.getLast?_cons]
    cases hg : ds.getLast? with
    | none => simp [hg] at hx
    | some y => simpa [hg] using hx
  · change t.due.tail.length ≤ 2 + t.beatDone.toNat
    rw [List.length_tail]; omega
  · intro j x hx
    change x ∈ t.due.tail[j.val]? at hx
    change x + t.due.tail.length ≤ t.position + 3 + t.beatDone.toNat + j.val
    rw [hds, List.tail_cons] at hx ⊢
    have hlt : j.val < ds.length := by
      obtain ⟨hlt, -⟩ := List.getElem?_eq_some_iff.mp hx
      exact hlt
    have hb : t.beatDone.toNat ≤ 1 := Bool.toNat_le _
    simp only [hds, List.length_cons] at hdlen
    have := hdue ⟨j.val + 1, by omega⟩ x (by simpa [hds] using hx)
    simp only [hds, List.length_cons] at this
    omega
  · calc (staying (returnBeat t.queue)).length ≤ (returnBeat t.queue).length := List.length_filter_le _ _
      _ ≤ 3 := by simpa using hlen

/-- The tracker at the next position, before any beat of it. -/
def Tracker.advanced (t : Tracker) : Tracker :=
  { t with position := t.position + 1, beatDone := false, resumed := false, arrived := false }

theorem Tracker.Ok.advanced {t : Tracker} (h : t.Ok) (hd : t.due.length ≤ 2) : t.advanced.Ok := by
  obtain ⟨hl, hok, hsum, hlast, hwr, -, -, ⟨-, hdue⟩, hlen⟩ := h
  refine ⟨hl, hok, hsum, hlast, hwr, by simp [Tracker.advanced], by simp [Tracker.advanced], ⟨hd, ?_⟩, hlen⟩
  intro j x hx
  have hb : t.beatDone.toNat ≤ 1 := Bool.toNat_le _
  have := hdue j x hx
  change x + t.due.length ≤ t.position + 1 + 3 + 0 + j.val
  omega

/-- The next position with the beat due at it returned (R3). -/
theorem Tracker.Ok.advanced_returned {t : Tracker} (h : t.Ok) (hd : t.dueAt (t.position + 1) = true) :
    t.advanced.returned.Ok := by
  refine Tracker.Ok.advanced (h.returned hd) ?_
  obtain ⟨-, -, -, -, -, -, -, ⟨hlen, -⟩, -⟩ := h
  have hb : t.beatDone.toNat ≤ 1 := Bool.toNat_le _
  change t.due.tail.length ≤ 2
  rw [List.length_tail]; omega

/-! ### The issue of a beat (R11, R13, R16, R19) -/

/-- A read entry that has issued one beat more. -/
def ReadEntry.issue (e : ReadEntry) : ReadEntry :=
  { e with issued := e.issued + 1, issuing := !lastBeat e.length (e.issued + 1) }

/-- The read burst in flight issues a beat: the entries that issue, the beat due, and the bank (R11, R13, R16). -/
theorem Tracker.issueRead_eq_map (t : Tracker) (e : ReadEntry) :
    t.issueRead e =
      let done := lastBeat e.length (e.issued + 1)
      { t with
        queue := t.queue.map fun x => if x.issuing then { x with issued := x.issued + 1, issuing := !done } else x
        due := t.due ++ [t.position + t.mode.latency], beatDone := true
        banks := if done && e.autoclose then t.banks.set e.bank .idle else t.banks } := by
  simp only [Tracker.issueRead]; split <;> rfl

/-- The entry that issues is the last of the queue. -/
theorem Tracker.issueRead_eq {t : Tracker} {front : List ReadEntry} {e : ReadEntry} (hq : t.queue = front ++ [e])
    (hi : e.issuing = true) (hf : ∀ x ∈ front, x.issuing = false) :
    t.issueRead e = { t with
      queue := front ++ [e.issue], due := t.due ++ [t.position + t.mode.latency], beatDone := true
      banks := if lastBeat e.length (e.issued + 1) && e.autoclose then t.banks.set e.bank .idle else t.banks } := by
  have hmap : (front.map fun x => if x.issuing then { x with
      issued := x.issued + 1, issuing := !lastBeat e.length (e.issued + 1) } else x) = front := by
    refine (List.map_congr_left fun x hx => ?_).trans (List.map_id front)
    simp [hf x hx]
  rw [Tracker.issueRead_eq_map]
  simp only [hq, List.map_append, hmap, List.map_cons, List.map_nil, hi, if_true]
  rfl

/-- The write burst in flight issues a beat, and the bank (R11, R13, R19). -/
theorem Tracker.issueWrite_eq (t : Tracker) (w : WriteBurst) :
    t.issueWrite w =
      let done := w.lengthKnown && lastBeat w.length (w.issued + 1)
      { t with
        write := if done then none else some { w with issued := w.issued + 1 }, beatDone := true
        banks := if done && w.autoclose then t.banks.set w.bank .idle else t.banks } := by
  simp only [Tracker.issueWrite]; split <;> rfl

theorem Tracker.Ok.issueRead {t : Tracker} (h : t.Ok) {e : ReadEntry} (hb : t.beatDone = false) (hw : t.write = none)
    (he : t.reading = some e) : (t.issueRead e).Ok := by
  obtain ⟨hl, hok, hsum, hlast, -, -, -, ⟨hdlen, hdue⟩, hlen⟩ := h
  obtain ⟨front, hq, hi, hf⟩ := Tracker.reading_last hlast he
  rw [Tracker.issueRead_eq hq hi hf]
  have hsum : outstanding t.queue = t.due.length := hsum
  simp only [hq, outstanding_append, outstanding_cons, outstanding_nil] at hsum
  have hle : e.returned ≤ e.issued := (hok e (by simp [hq])).1
  have hokf : ∀ x ∈ front, x.Ok := fun x hx => hok x (by simp [hq, hx])
  simp only [hb, Bool.toNat_false] at hdlen hdue
  refine ⟨hl, ?_, ?_, ?_, by simp [hw], ?_, ?_, ⟨?_, ?_⟩, ?_⟩
  · intro x hx
    rcases List.mem_append.mp hx with hx | hx
    · exact hokf x hx
    · obtain rfl := List.mem_singleton.mp hx
      exact ⟨Nat.le_succ_of_le hle, (stays_iff _).mpr (.inr (by simp [ReadEntry.issue]; omega))⟩
  · change outstanding (front ++ [e.issue]) = (t.due ++ [t.position + t.mode.latency]).length
    simp [ReadEntry.issue]; omega
  · simpa [List.dropLast_concat] using hf
  · intro _ x hx
    rcases List.mem_append.mp hx with hx | hx
    · exact returned_lt_issued hokf hf x hx
    · obtain rfl := List.mem_singleton.mp hx
      simp [ReadEntry.issue]; omega
  · intro _ _ d hd
    simp at hd; subst hd; simp only []; omega
  · simpa [Nat.lt_succ_iff] using hdlen
  · intro j d hd
    simp only [List.length_append, List.length_singleton, Bool.toNat_true] at hd ⊢
    rcases Nat.lt_or_ge j.val t.due.length with hj | hj
    · have := hdue j d (by simpa [List.getElem?_append_left hj] using hd)
      omega
    · rw [List.getElem?_append_right hj] at hd
      have hj0 : j.val - t.due.length = 0 := by
        by_contra hne
        obtain ⟨k, hk⟩ := Nat.exists_eq_succ_of_ne_zero hne
        simp [hk] at hd
      simp [hj0] at hd; omega
  · simpa [hq] using hlen

theorem Tracker.Ok.issueWrite {t : Tracker} (h : t.Ok) {w : WriteBurst} (hw : t.write = some w) :
    (t.issueWrite w).Ok := by
  obtain ⟨hl, hok, hsum, hlast, hwr, -, -, ⟨hdlen, hdue⟩, hlen⟩ := h
  have hni : ∀ e ∈ t.queue, e.issuing = false := hwr (by simp [hw])
  have hb : t.beatDone.toNat ≤ 1 := Bool.toNat_le _
  rw [Tracker.issueWrite_eq]
  refine ⟨hl, hok, hsum, hlast, fun _ => hni, fun _ => returned_lt_issued hok hni, ?_, ⟨?_, ?_⟩, hlen⟩
  · intro _ hany
    obtain ⟨e, he, hi⟩ := List.any_eq_true.mp hany
    simp [hni e he] at hi
  · simp only [Bool.toNat_true]; omega
  · intro j d hd
    have := hdue j d hd
    simp only [Bool.toNat_true]; omega

/-- A new entry, where no burst is in flight and the position has issued no beat: there is room for it (R17). -/
theorem Tracker.Ok.addEntry {t : Tracker} (h : t.Ok) (hb : t.beatDone = false) (hn : t.burst = none) (e : ReadEntry)
    (h0 : e.issued = 0) (h1 : e.returned = 0) (hi : e.issuing = true) :
    Tracker.Ok { t with queue := t.queue ++ [e] } := by
  obtain ⟨hl, hok, hsum, -, -, -, -, ⟨hdlen, hdue⟩, -⟩ := h
  obtain ⟨hw, hni⟩ := Tracker.burst_eq_none.mp hn
  have hsum : outstanding t.queue = t.due.length := hsum
  refine ⟨hl, ?_, ?_, ?_, by simp [hw], by simp [hb], by simp [hb], ⟨hdlen, hdue⟩, ?_⟩
  · intro x hx
    rcases List.mem_append.mp hx with hx | hx
    · exact hok x hx
    · obtain rfl := List.mem_singleton.mp hx
      exact ⟨by omega, (stays_iff x).mpr (.inl hi)⟩
  · change outstanding (t.queue ++ [e]) = t.due.length
    simp [hsum, h0]
  · simpa [List.dropLast_concat] using hni
  · have h2 := length_le_outstanding (returned_lt_issued hok hni)
    simp only [hb, Bool.toNat_false] at hdlen
    simp only [List.length_append, List.length_singleton]; omega

/-- A write burst, where no burst is in flight. -/
theorem Tracker.Ok.addWrite {t : Tracker} (h : t.Ok) (hn : t.burst = none) (w : WriteBurst) :
    Tracker.Ok { t with write := some w } := by
  obtain ⟨hl, hok, hsum, hlast, -, hrest⟩ := h
  exact ⟨hl, hok, hsum, hlast, fun _ => (Tracker.burst_eq_none.mp hn).2, hrest⟩

end Sys2Proof.Machine
end

section
/-! SUPPORT. What the other blocks leave of the Bus Tracker, of what waits and of a pending restart; and that the
lines of the bus decide nothing of it. -/

namespace Sys2Proof.Machine

/-! ### A block's own operation -/

/-- What an operation of a block other than the Bus Tracker keeps: reset and straps, the tracker but for a declared
mode image, a record at the front of what waits (R147), and a pending restart only on a non-empty queue (R167). -/
structure KeepsTracker (s t : State) : Prop where
  inReset : t.inReset = s.inReset
  straps : t.straps = s.straps
  tracker : t.tracker = { s.tracker with mode := t.tracker.mode }
  latency : t.tracker.mode.latency = s.tracker.mode.latency ∨ t.tracker.mode.latency = 2 ∨ t.tracker.mode.latency = 3
  inbox : s.InboxOk → t.InboxOk
  restart : s.RestartOk → t.RestartOk

theorem KeepsTracker.refl (s : State) : KeepsTracker s s := ⟨rfl, rfl, rfl, .inl rfl, id, id⟩

theorem KeepsTracker.trans {s t u : State} (h : KeepsTracker s t) (k : KeepsTracker t u) : KeepsTracker s u where
  inReset := k.inReset.trans h.inReset
  straps := k.straps.trans h.straps
  tracker := by rw [k.tracker, h.tracker]
  latency := by
    rcases k.latency with hk | hk
    · rw [hk]; exact h.latency
    · exact .inr hk
  inbox := k.inbox ∘ h.inbox
  restart := k.restart ∘ h.restart

/-- An operation that touches none of these. -/
theorem KeepsTracker.of_eq {s t : State} (h1 : t.inReset = s.inReset) (h2 : t.straps = s.straps)
    (h3 : t.tracker = s.tracker) (h4 : t.inbox = s.inbox) (h5 : t.report.restartPending = s.report.restartPending) :
    KeepsTracker s t where
  inReset := h1
  straps := h2
  tracker := by rw [h3]
  latency := .inl (by rw [h3])
  inbox h n hn := h n (by rwa [h4] at hn)
  restart h hr := by rw [h3]; exact h (h5.symm.trans hr)

theorem KeepsTracker.ite {s a b : State} {c : Prop} [Decidable c] (ha : KeepsTracker s a) (hb : KeepsTracker s b) :
    KeepsTracker s (if c then a else b) := by split <;> assumption

theorem KeepsTracker.foldl {α : Type} {op : State → α → State} (h : ∀ s a, KeepsTracker s (op s a)) (l : List α)
    (s : State) : KeepsTracker s (l.foldl op s) := by
  induction l generalizing s with
  | nil => exact .refl s
  | cons a l ih => exact (h s a).trans (ih _)

/-- What the tracker's own fields are after such an operation. -/
theorem KeepsTracker.fields {s t : State} (h : KeepsTracker s t) :
    t.tracker.banks = s.tracker.banks ∧ t.tracker.queue = s.tracker.queue ∧ t.tracker.due = s.tracker.due ∧
      t.tracker.write = s.tracker.write ∧ t.tracker.store = s.tracker.store ∧
      t.tracker.position = s.tracker.position ∧ t.tracker.beatDone = s.tracker.beatDone := by
  rw [h.tracker]; exact ⟨rfl, rfl, rfl, rfl, rfl, rfl, rfl⟩

theorem KeepsTracker.takesBus {s t : State} (h : KeepsTracker s t) : t.takesBus = s.takesBus := by
  simp only [State.takesBus, h.inReset, h.fields.2.2.2.2.1]

theorem KeepsTracker.ok {s t : State} (h : KeepsTracker s t) (hs : s.tracker.Ok) : t.tracker.Ok := by
  have hl : t.tracker.mode.latency = 2 ∨ t.tracker.mode.latency = 3 := by
    rcases h.latency with hl | hl
    · rw [hl]; exact hs.1
    · exact hl
  rw [h.tracker]; exact hs.setModeTo _ hl

/-! ### Handing over and the end of a stall -/

theorem drain_keepsTracker (s : State) (ns : List Notice) : KeepsTracker s (s.drain ns) where
  inReset := by rw [drain_frame]
  straps := by rw [drain_frame]
  tracker := by rw [drain_frame]
  latency := .inl (by rw [drain_frame])
  inbox _ := drain_inboxOk ns s
  restart h := by rw [drain_frame]; exact h

theorem hand_keepsTracker (s : State) (ns : List Notice) : KeepsTracker s (s.hand ns) := drain_keepsTracker s _

/-- Handing over after an operation that keeps the tracker. -/
theorem KeepsTracker.hand {s t : State} (h : KeepsTracker s t) (ns : List Notice) : KeepsTracker s (t.hand ns) :=
  h.trans (hand_keepsTracker t ns)

theorem takeRecord_keepsTracker (s : State) (r : Record) : KeepsTracker s (s.takeRecord r) := by
  refine .of_eq (by rw [takeRecord_frame]) (by rw [takeRecord_frame]) (by rw [takeRecord_frame])
    (by rw [takeRecord_frame]) ?_
  unfold State.takeRecord; simp only []
  split
  · rfl
  · change (s.report.append r).restartPending = s.report.restartPending
    rw [append_frame]

/-- What stands in front stays in front of what is put behind it. -/
theorem putBehindLast_head? {α : Type} (p : α → Bool) (x : α) (l : List α) :
    (putBehindLast p x l).head? = l.head? := by
  cases l with
  | nil => rfl
  | cons y ys => simp only [putBehindLast]; split <;> [rfl; (split <;> rfl)]

theorem endStall_keepsTracker (s : State) (f : Fin 8) : KeepsTracker s (s.endStall f) where
  inReset := rfl
  straps := rfl
  tracker := rfl
  latency := .inl rfl
  inbox h n hn := h n (by rwa [State.endStall_inbox, putBehindLast_head?] at hn)
  restart := id

/-! ### The restart (R167) -/

theorem restart_keepsTracker (s : State) : KeepsTracker s s.restart where
  inReset := rfl
  straps := rfl
  tracker := rfl
  latency := .inl rfl
  inbox := id
  restart _ hr := by simp [State.restart, Report.restart] at hr

theorem settleRestart_keepsTracker (s : State) : KeepsTracker s s.settleRestart := by
  unfold State.settleRestart; exact .ite (restart_keepsTracker s) (.refl s)

theorem requestRestart_keepsTracker (s : State) : KeepsTracker s s.requestRestart := by
  unfold State.requestRestart
  split
  · exact .refl s
  · split
    · exact restart_keepsTracker s
    · rename_i hq
      exact { inReset := rfl, straps := rfl, tracker := rfl, latency := .inl rfl, inbox := id
              restart := fun _ _ => by simpa using hq }

/-- A restart that is pending only on a non-empty queue has nothing to settle. -/
theorem settleRestart_of_restartOk {s : State} (h : s.RestartOk) : s.settleRestart = s := by
  rcases settleRestart_cases s with ⟨hs, -⟩ | ⟨-, hp, hq⟩
  · exact hs
  · exact absurd hq (h hp)

/-! ### Mode codes (1.4) -/

/-- The valid sets of codes. -/
theorem codesValid_iff (c : ModeCodes) :
    codesValid c = true ↔
      c.length.toNat ∈ [0, 1, 2, 3, 7] ∧ c.latency.toNat ∈ [2, 3] ∧ ¬ (c.length.toNat = 7 ∧ c.interleaved = true) := by
  obtain ⟨len, il, lat, ws⟩ := c
  have h7 : len = 7#3 ↔ len.toNat = 7 := ⟨fun h => by rw [h]; rfl, fun h => BitVec.eq_of_toNat_eq h⟩
  have hlen : (lengthOfCode len.toNat).isSome = true ↔ len.toNat ∈ [0, 1, 2, 3, 7] := by
    revert len; decide
  simp only [codesValid, Bool.and_eq_true, hlen, and_assoc]
  refine and_congr_right fun _ => and_congr (by simp) ?_
  simp [h7, imp_iff_not_or]

theorem codesImage_latency {c : ModeCodes} (h : codesValid c = true) (src : ModeSource) :
    (codesImage c src).latency = 2 ∨ (codesImage c src).latency = 3 := by
  simpa [codesImage] using ((codesValid_iff c).mp h).2.1

/-! ### Write beats -/

theorem declare_keepsTracker (s : State) {c : ModeCodes} (h : codesValid c = true) : KeepsTracker s (s.declare c) := by
  have hm : KeepsTracker s (s.setMode (codesImage c .declared)) :=
    { inReset := rfl, straps := rfl, tracker := rfl, latency := .inr (codesImage_latency h .declared), inbox := id
      restart := id }
  exact hm.trans (hand_keepsTracker _ _)

theorem modeWrite_keepsTracker (s : State) (f : Fin 8) (m : Mode) (b : Bool) : KeepsTracker s (s.modeWrite f m b) := by
  have hm : KeepsTracker s (s.modFace f fun x => x.modeWrite m b) := .of_eq rfl rfl rfl rfl rfl
  exact .ite (hm.trans (endStall_keepsTracker _ f)) hm

theorem faceModeWord_keepsTracker (s : State) (f : Fin 8) (w : Word) : KeepsTracker s (s.faceModeWord f w) := by
  refine .ite (.refl s) (.ite (.of_eq rfl rfl rfl rfl rfl) ?_)
  split
  · exact modeWrite_keepsTracker s f _ _
  · exact .refl s

theorem immediateWrite_keepsTracker (s : State) (off : Nat) (w : Word) : KeepsTracker s (s.immediateWrite off w) := by
  refine .ite (.ite (.of_eq rfl rfl rfl rfl rfl) (.refl s)) (.ite ?_ (.ite (.of_eq rfl rfl rfl rfl rfl)
    (.ite (.ite (requestRestart_keepsTracker s) (.refl s)) (.ite (faceModeWord_keepsTracker s _ w) (.refl s)))))
  split
  · exact declare_keepsTracker s (by assumption)
  · exact .refl s

theorem policyWrite_keepsTracker (s : State) (off : Nat) (data : Word) (m : Mask) :
    KeepsTracker s (s.policyWrite off data m) := by
  refine .ite (.ite (immediateWrite_keepsTracker s off data) (.refl s)) ?_
  split
  · exact .of_eq rfl rfl rfl rfl rfl
  · exact .refl s

theorem headerWrite_restartPending (p : Report) (k : Fin 32) (c : Nat) :
    (p.headerWrite k c).restartPending = p.restartPending := by
  unfold Report.headerWrite; repeat' split
  all_goals rfl

theorem filterWrite_restartPending (p : Report) (k : Fin 32) (data : Word) (m : Mask) :
    (p.filterWrite k data m).restartPending = p.restartPending := by
  unfold Report.filterWrite; split <;> rfl

theorem readLock_restartPending (p : Report) (off : Nat) : (p.readLock off).restartPending = p.restartPending := by
  unfold Report.readLock; repeat' split
  all_goals rfl

theorem chooseFrom_restartPending (p : Report) (rs : List Record) :
    (p.chooseFrom rs).restartPending = p.restartPending := by
  induction rs generalizing p with
  | nil => rfl
  | cons r rs ih =>
    simp only [Report.chooseFrom]; split
    · rfl
    · exact ih _

theorem choice_restartPending (p : Report) : p.choice.restartPending = p.restartPending := by
  unfold Report.choice; split
  · exact chooseFrom_restartPending p _
  · rfl

theorem writeEnd_restartPending (p : Report) : p.writeEnd.restartPending = p.restartPending := by
  unfold Report.writeEnd; split
  · exact choice_restartPending _
  · rfl

/-- A change of the Report Block that leaves its pending flag. -/
theorem modReport_keepsTracker (s : State) {g : Report → Report}
    (h : ∀ p, (g p).restartPending = p.restartPending) : KeepsTracker s (s.modReport g) :=
  .of_eq rfl rfl rfl rfl (h _)

theorem reportWrite_keepsTracker (s : State) (off : Nat) (data : Word) (m : Mask) :
    KeepsTracker s (s.reportWrite off data m) := by
  unfold State.reportWrite; split
  · exact .ite (modReport_keepsTracker s fun p => headerWrite_restartPending p _ _) (.refl s)
  · exact modReport_keepsTracker s fun p => filterWrite_restartPending p _ data m
  · exact .refl s

theorem liveWrite_keepsTracker (s : State) (f : Fin 8) (b : Buffer) : KeepsTracker s (s.liveWrite f b) :=
  .ite (.of_eq rfl rfl rfl rfl rfl) (.refl s)

/-- A write beat handed over, whatever its class. -/
theorem takeWrite_keepsTracker (s : State) (c : BeatClass) (data : Word) (m : Mask) :
    KeepsTracker s (s.takeWrite c data m) := by
  cases c with
  | unattributed => exact .refl s
  | policy off => exact policyWrite_keepsTracker s off data m
  | report off => exact reportWrite_keepsTracker s off data m
  | pixel f b x line z => exact liveWrite_keepsTracker s f b
  | padding f b => exact liveWrite_keepsTracker s f b
  | other c => exact .refl s

theorem serviceWrite_keepsTracker (s : State) (off : Nat) (data : Word) (m : Mask) :
    KeepsTracker s (s.serviceWrite off data m) := by
  have hd : KeepsTracker s (s.driveStore data m) := .of_eq rfl rfl rfl rfl rfl
  exact .ite hd (.ite (.refl s) (hd.trans (takeWrite_keepsTracker _ _ data m)))

/-! ### Read beats -/

theorem scalePixel_keepsTracker (s : State) (f : Fin 8) (z : Fin 16) (w : Word) : KeepsTracker s (s.scalePixel f z w) :=
  .of_eq rfl rfl rfl rfl rfl

theorem startBeat_keepsTracker (s : State) (f : Fin 8) (b : Buffer) (l : Nat) (z : Fin 16) (w : Word) :
    KeepsTracker s (s.startBeat f b l z w) := by
  have hs : KeepsTracker s (s.frameStarted f b l) := .of_eq rfl rfl rfl rfl rfl
  have hafter (ns : List Notice) : KeepsTracker s (((s.frameStarted f b l).hand ns).scalePixel f z w) :=
    (hs.trans (hand_keepsTracker _ ns)).trans (scalePixel_keepsTracker _ f z w)
  have hbefore (ns : List Notice) : KeepsTracker s (((s.frameStarted f b l).scalePixel f z w).hand ns) :=
    (hs.trans (scalePixel_keepsTracker _ f z w)).trans (hand_keepsTracker _ ns)
  unfold State.startBeat
  exact .ite (hafter _)
    ((KeepsTracker.ite (hafter _) (hbefore _)).trans (.of_eq rfl rfl rfl rfl rfl))

theorem pixelRead_keepsTracker (s : State) (f : Fin 8) (b : Buffer) (l : Nat) (z : Fin 16) (w : Word) :
    KeepsTracker s (s.pixelRead f b l z w) := by
  have ht : KeepsTracker s (s.startStallTimer f) := .of_eq rfl rfl rfl rfl rfl
  exact .ite (scalePixel_keepsTracker s f z w)
    (.ite (ht.trans (startBeat_keepsTracker _ f b l z w)) (.of_eq rfl rfl rfl rfl rfl))

/-- A read beat handed over, whatever its class. -/
theorem takeRead_keepsTracker (s : State) (c : BeatClass) (w : Word) : KeepsTracker s (s.takeRead c w) := by
  cases c with
  | unattributed => exact .of_eq rfl rfl rfl rfl rfl
  | policy off => exact .of_eq rfl rfl rfl rfl rfl
  | report off => exact .of_eq rfl rfl rfl rfl (readLock_restartPending _ off)
  | pixel f b x line z => exact pixelRead_keepsTracker s f b line z w
  | padding f b => exact .of_eq rfl rfl rfl rfl rfl
  | other c => exact .of_eq rfl rfl rfl rfl rfl

theorem reportReadBeat_keepsTracker (s : State) (off : Nat) : KeepsTracker s (s.reportReadBeat off) :=
  .ite (takeRead_keepsTracker s _ _) (.refl s)

/-! ### Time, light, tiles, the commit and the Report Block -/

theorem staleExpiry_keepsTracker (s : State) (ch : Fin 4) : KeepsTracker s (s.staleExpiry ch) := by
  refine .ite (KeepsTracker.hand ?_ _) (.refl s)
  exact .of_eq rfl rfl rfl rfl rfl

theorem stallExpiry_keepsTracker (s : State) (f : Fin 8) : KeepsTracker s (s.stallExpiry f) := by
  refine .ite (KeepsTracker.hand ?_ _) (.refl s)
  exact .of_eq rfl rfl rfl rfl rfl

theorem silentExpiry_keepsTracker (s : State) (f : Fin 8) (i : Fin 32) : KeepsTracker s (s.silentExpiry f i) := by
  refine .ite (KeepsTracker.hand ?_ _) (.refl s)
  exact .of_eq rfl rfl rfl rfl rfl

theorem takeTick_keepsTracker (s : State) : KeepsTracker s s.takeTick := .ite (.of_eq rfl rfl rfl rfl rfl) (.refl s)

theorem settleTime_keepsTracker (s : State) : KeepsTracker s s.settleTime :=
  (((KeepsTracker.foldl staleExpiry_keepsTracker _ _).trans (.foldl stallExpiry_keepsTracker _ _)).trans
    (.foldl (fun s f => .foldl (fun s i => silentExpiry_keepsTracker s f i) _ s) _ _)).trans (takeTick_keepsTracker _)

theorem ms1_keepsTracker (s : State) : KeepsTracker s s.ms1 := .of_eq rfl rfl rfl rfl rfl

theorem clockCycle_keepsTracker (s : State) : KeepsTracker s s.clockCycle := by
  unfold State.clockCycle
  refine .ite (.refl s) ((settleTime_keepsTracker s).trans ?_)
  generalize s.settleTime = t
  exact .ite (.of_eq rfl rfl rfl rfl rfl) (ms1_keepsTracker t)

theorem goodFrame_keepsTracker (s : State) (ch : Fin 4) (code : Nat) (flag : Bool) :
    KeepsTracker s (s.goodFrame ch code flag) := by
  refine KeepsTracker.hand ?_ _
  exact .of_eq rfl rfl rfl rfl rfl

theorem badSample_keepsTracker (s : State) (ch : Fin 4) : KeepsTracker s (s.badSample ch) := by
  refine KeepsTracker.hand ?_ _
  exact .of_eq rfl rfl rfl rfl rfl

theorem goodTile_keepsTracker (s : State) (f : Fin 8) (i : Fin 32) (st : BitVec 4) (o t : Byte) :
    KeepsTracker s (s.goodTile f i st o t) := by
  refine KeepsTracker.hand ?_ _
  exact .of_eq rfl rfl rfl rfl rfl

theorem switched_keepsTracker (s : State) : KeepsTracker s s.switched := by
  have hfold (c : Fin 8 → Bool) (t : State) :
      KeepsTracker t (allFaces.foldl (fun t f => if c f then t.endStall f else t) t) :=
    .foldl (fun t f => .ite (endStall_keepsTracker t f) (.refl t)) _ t
  unfold State.switched
  refine KeepsTracker.trans ?_ (hfold _ _)
  exact .of_eq rfl rfl rfl rfl rfl

/-! ### The lines of the bus decide nothing of a write beat -/

theorem drain_setBus (ns : List Notice) (s : State) (b : BusOut) :
    ({ s with bus := b } : State).drain ns = { s.drain ns with bus := b } := by
  induction ns generalizing s with
  | nil => rfl
  | cons n ns ih =>
    cases n with
    | record r => rfl
    | completion f =>
      have hc : ({ s with bus := b } : State).takeCompletion f = { s.takeCompletion f with bus := b } := by
        unfold State.takeCompletion; by_cases h : s.configured f = true
        · rw [if_pos h]; exact if_pos h
        · rw [if_neg h]; exact if_neg h
      simp only [State.drain, hc, ih]
    | stallEnded f => exact ih (s.takeStallEnded f)

/-- A conditional operation that ignores the lines in both its cases. -/
theorem ite_setBus {c : Prop} [Decidable c] {a a' x x' : State} {b : BusOut} (ha : a' = { a with bus := b })
    (hx : x' = { x with bus := b }) : (if c then a' else x') = { (if c then a else x) with bus := b } := by
  split <;> assumption

theorem requestRestart_setBus (s : State) (b : BusOut) :
    ({ s with bus := b } : State).requestRestart = { s.requestRestart with bus := b } :=
  ite_setBus rfl (ite_setBus rfl rfl)

theorem settleRestart_setBus (s : State) (b : BusOut) :
    ({ s with bus := b } : State).settleRestart = { s.settleRestart with bus := b } := ite_setBus rfl rfl

theorem faceModeWord_setBus (s : State) (f : Fin 8) (w : Word) (b : BusOut) :
    ({ s with bus := b } : State).faceModeWord f w = { s.faceModeWord f w with bus := b } := by
  refine ite_setBus rfl (ite_setBus rfl ?_)
  cases modeOfCode (bits w 0 3) with
  | none => rfl
  | some m => exact ite_setBus rfl rfl

theorem declare_setBus (s : State) (c : ModeCodes) (b : BusOut) :
    ({ s with bus := b } : State).declare c = { s.declare c with bus := b } :=
  drain_setBus _ (s.setMode (codesImage c .declared)) b

theorem policyWrite_setBus (s : State) (off : Nat) (data : Word) (m : Mask) (b : BusOut) :
    ({ s with bus := b } : State).policyWrite off data m = { s.policyWrite off data m with bus := b } := by
  refine ite_setBus (ite_setBus ?_ rfl) ?_
  · exact ite_setBus (ite_setBus rfl rfl) (ite_setBus (ite_setBus (declare_setBus s _ b) rfl) (ite_setBus rfl
      (ite_setBus (ite_setBus (requestRestart_setBus s b) rfl) (ite_setBus (faceModeWord_setBus s _ data b) rfl))))
  · cases stagedAddr off <;> rfl

theorem reportWrite_setBus (s : State) (off : Nat) (data : Word) (m : Mask) (b : BusOut) :
    ({ s with bus := b } : State).reportWrite off data m = { s.reportWrite off data m with bus := b } := by
  unfold State.reportWrite; split
  · exact ite_setBus rfl rfl
  · rfl
  · rfl

/-- What a write beat does is the same whatever the bus carries, and the bus keeps what it carries. -/
theorem takeWrite_setBus (s : State) (c : BeatClass) (data : Word) (m : Mask) (b : BusOut) :
    ({ s with bus := b } : State).takeWrite c data m = { s.takeWrite c data m with bus := b } := by
  cases c with
  | unattributed => rfl
  | policy off => exact policyWrite_setBus s off data m b
  | report off => exact reportWrite_setBus s off data m b
  | pixel f buf x line z => exact ite_setBus rfl rfl
  | padding f buf => exact ite_setBus rfl rfl
  | other c => rfl

end Sys2Proof.Machine
end

section
/-! SUPPORT. The issue of a beat, the beginning of a position and the bus commands: what each does to the tracker, and
what all of them keep (R1, R3, R11 to R19). -/

namespace Sys2Proof.Machine

/-! ### What beats and positions keep -/

/-- What the issue of a beat and the passing of a position keep: reset and straps, the store state, a record at the
front of what waits, and a pending restart only on a non-empty queue. -/
structure KeepsPart (s t : State) : Prop where
  inReset : t.inReset = s.inReset
  straps : t.straps = s.straps
  store : t.tracker.store = s.tracker.store
  inbox : s.InboxOk → t.InboxOk
  restart : s.RestartOk → t.RestartOk

theorem KeepsPart.refl (s : State) : KeepsPart s s := ⟨rfl, rfl, rfl, id, id⟩

theorem KeepsPart.trans {s t u : State} (h : KeepsPart s t) (k : KeepsPart t u) : KeepsPart s u :=
  ⟨k.inReset.trans h.inReset, k.straps.trans h.straps, k.store.trans h.store, k.inbox ∘ h.inbox, k.restart ∘ h.restart⟩

theorem KeepsTracker.keepsPart {s t : State} (h : KeepsTracker s t) : KeepsPart s t :=
  ⟨h.inReset, h.straps, by rw [h.tracker], h.inbox, h.restart⟩

theorem KeepsPart.takesBus {s t : State} (h : KeepsPart s t) : t.takesBus = s.takesBus := by
  simp only [State.takesBus, h.inReset, h.store]

theorem KeepsPart.strapImage {s t : State} (h : KeepsPart s t) : t.strapImage = s.strapImage := by
  simp only [State.strapImage, h.straps]

theorem KeepsPart.fallbackFactor {s t : State} (h : KeepsPart s t) : t.fallbackFactor = s.fallbackFactor := by
  simp only [State.fallbackFactor, h.straps]

/-- Another tracker in the same store state, whose queue is not emptied. -/
theorem setTracker_keepsPart (s : State) {t : Tracker} (hs : t.store = s.tracker.store)
    (hq : s.tracker.queue ≠ [] → t.queue ≠ []) : KeepsPart s (s.setTracker t) :=
  ⟨rfl, rfl, hs, id, fun h hr => hq (h hr)⟩

/-- Another tracker in the same store state, with the restart settled. -/
theorem setTracker_settleRestart_keepsPart (s : State) {t : Tracker} (hs : t.store = s.tracker.store) :
    KeepsPart s (s.setTracker t).settleRestart where
  inReset := by simp
  straps := by simp
  store := by simpa using hs
  inbox := (settleRestart_keepsTracker (s.setTracker t)).inbox
  restart _ := settleRestart_restartOk _

theorem takesBus_iff (s : State) : s.takesBus = true ↔ s.inReset = false ∧ s.tracker.store = .awake := by
  simp [State.takesBus]

theorem takesBus_of_inReset {s : State} (h : s.inReset = true) : s.takesBus = false := by simp [State.takesBus, h]

/-! ### The issue of a beat (R11, R13, R16, R19) -/

/-- The burst in flight is a write burst, or a read burst, or there is none. -/
theorem Tracker.burst_cases (t : Tracker) :
    (∃ w, t.write = some w) ∨ (∃ e, t.write = none ∧ t.reading = some e) ∨ t.burst = none := by
  cases hw : t.write with
  | some w => exact .inl ⟨w, rfl⟩
  | none =>
    cases he : t.reading with
    | some e => exact .inr (.inl ⟨e, rfl, rfl⟩)
    | none => exact .inr (.inr (by simp [Tracker.burst, hw, he]))

theorem issueBeat_of_write {s : State} {w : WriteBurst} (h : s.tracker.write = some w) (data : Word) (m : Mask) :
    s.issueBeat data m =
      (s.setTracker (s.tracker.issueWrite w)).writeBeat (w.address s.strapImage.map) data m := by
  simp only [State.issueBeat, h]

theorem issueBeat_of_reading {s : State} {e : ReadEntry} (hw : s.tracker.write = none)
    (h : s.tracker.reading = some e) (data : Word) (m : Mask) :
    s.issueBeat data m = s.setTracker (s.tracker.issueRead e) := by
  simp only [State.issueBeat, hw, h]

theorem issueBeat_of_no_burst {s : State} (h : s.tracker.burst = none) (data : Word) (m : Mask) :
    s.issueBeat data m = s := by
  obtain ⟨hw, hi⟩ := Tracker.burst_eq_none.mp h
  simp only [State.issueBeat, hw, Tracker.reading_eq_none.mpr hi]

/-- The fields of the tracker that the issue of a read beat leaves, or sets whatever the burst is. -/
theorem Tracker.issueRead_frame (t : Tracker) (e : ReadEntry) :
    (t.issueRead e).store = t.store ∧ (t.issueRead e).beatDone = true ∧ (t.issueRead e).position = t.position ∧
      (t.issueRead e).due = t.due ++ [t.position + t.mode.latency] ∧ (t.issueRead e).write = t.write ∧
      (t.issueRead e).queue.length = t.queue.length := by
  rw [Tracker.issueRead_eq_map]
  exact ⟨rfl, rfl, rfl, rfl, rfl, List.length_map _⟩

/-- The issue of a beat, whatever burst is in flight: the position has its beat, and no due beat is lost. -/
theorem issueBeat_tracker {s : State} (h : s.tracker.burst ≠ none) (data : Word) (m : Mask) :
    (s.issueBeat data m).tracker.beatDone = true ∧ (s.issueBeat data m).tracker.position = s.tracker.position ∧
      ∃ ds, (s.issueBeat data m).tracker.due = s.tracker.due ++ ds := by
  rcases s.tracker.burst_cases with ⟨w, hw⟩ | ⟨e, hw, he⟩ | hn
  · rw [issueBeat_of_write hw, State.writeBeat]
    obtain ⟨-, -, hdue, -, -, hpos, hbeat⟩ :=
      (takeWrite_keepsTracker (s.setTracker (s.tracker.issueWrite w)) ((s.setTracker (s.tracker.issueWrite w)).classify
        (w.address s.strapImage.map)) data m).fields
    rw [hdue, hpos, hbeat, State.setTracker_tracker, Tracker.issueWrite_eq]
    exact ⟨rfl, rfl, [], by simp⟩
  · rw [issueBeat_of_reading hw he, State.setTracker_tracker]
    obtain ⟨-, hbeat, hpos, hdue, -⟩ := s.tracker.issueRead_frame e
    exact ⟨hbeat, hpos, _, hdue⟩
  · exact absurd hn h

theorem issueBeat_keepsPart (s : State) (data : Word) (m : Mask) : KeepsPart s (s.issueBeat data m) := by
  rcases s.tracker.burst_cases with ⟨w, hw⟩ | ⟨e, hw, he⟩ | hn
  · rw [issueBeat_of_write hw, State.writeBeat]
    refine KeepsPart.trans ?_ (takeWrite_keepsTracker _ _ data m).keepsPart
    rw [Tracker.issueWrite_eq]
    exact setTracker_keepsPart s rfl id
  · rw [issueBeat_of_reading hw he]
    obtain ⟨hstore, -, -, -, -, hlen⟩ := s.tracker.issueRead_frame e
    refine setTracker_keepsPart s hstore fun hq hnil => hq ?_
    rwa [← List.length_eq_zero_iff, ← hlen, List.length_eq_zero_iff]
  · rw [issueBeat_of_no_burst hn]; exact .refl s

theorem issueBeat_ok {s : State} (h : s.tracker.Ok) (hb : s.tracker.beatDone = false) (data : Word) (m : Mask) :
    (s.issueBeat data m).tracker.Ok := by
  rcases s.tracker.burst_cases with ⟨w, hw⟩ | ⟨e, hw, he⟩ | hn
  · rw [issueBeat_of_write hw]
    exact (takeWrite_keepsTracker _ _ data m).ok (h.issueWrite hw)
  · rw [issueBeat_of_reading hw he]
    exact h.issueRead hb hw he
  · rwa [issueBeat_of_no_burst hn]

/-! ### Positions (R1, R3) -/

/-- The current position has issued its beat, or has none to issue. -/
abbrev Tracker.Finished (t : Tracker) : Prop := t.beatDone = true ∨ t.burst = none

theorem finishPosition_of_finished {s : State} (h : s.tracker.Finished) : s.finishPosition = s := by
  unfold State.finishPosition
  rcases h with h | h
  · rw [if_pos h]
  · rw [issueBeat_of_no_burst h, ite_self]

theorem finishPosition_of_not_done {s : State} (h : s.tracker.beatDone = false) :
    s.finishPosition = s.issueBeat 0#32 0xF#4 := by
  simp [State.finishPosition, h]

theorem finishPosition_cases (s : State) :
    (s.finishPosition = s ∧ s.tracker.Finished) ∨
      (s.finishPosition = s.issueBeat 0#32 0xF#4 ∧ s.tracker.beatDone = false ∧ s.tracker.burst ≠ none) := by
  by_cases h : s.tracker.Finished
  · exact .inl ⟨finishPosition_of_finished h, h⟩
  · obtain ⟨hb, hn⟩ := not_or.mp h
    rw [Bool.not_eq_true] at hb
    exact .inr ⟨finishPosition_of_not_done hb, hb, hn⟩

theorem finishPosition_finished (s : State) : s.finishPosition.tracker.Finished := by
  rcases finishPosition_cases s with ⟨h, hf⟩ | ⟨h, -, hn⟩ <;> rw [h]
  · exact hf
  · exact .inl (issueBeat_tracker hn _ _).1

@[simp] theorem finishPosition_finishPosition (s : State) : s.finishPosition.finishPosition = s.finishPosition :=
  finishPosition_of_finished (finishPosition_finished s)

/-- The finish of a position: the position stays, and no due beat is lost. -/
theorem finishPosition_tracker (s : State) :
    s.finishPosition.tracker.position = s.tracker.position ∧
      ∃ ds, s.finishPosition.tracker.due = s.tracker.due ++ ds := by
  rcases finishPosition_cases s with ⟨h, -⟩ | ⟨h, -, hn⟩ <;> rw [h]
  · exact ⟨rfl, [], by simp⟩
  · exact (issueBeat_tracker hn _ _).2

theorem finishPosition_keepsPart (s : State) : KeepsPart s s.finishPosition := by
  rcases finishPosition_cases s with ⟨h, -⟩ | ⟨h, -⟩ <;> rw [h]
  · exact .refl s
  · exact issueBeat_keepsPart s _ _

theorem finishPosition_ok {s : State} (h : s.tracker.Ok) : s.finishPosition.tracker.Ok := by
  rcases finishPosition_cases s with ⟨he, -⟩ | ⟨he, hb, -⟩ <;> rw [he]
  · exact h
  · exact issueBeat_ok h hb _ _

/-- The beginning of a position: the last one is finished first. -/
@[simp] theorem beginPosition_finishPosition (s : State) : s.finishPosition.beginPosition = s.beginPosition := by
  simp only [State.beginPosition, finishPosition_finishPosition]

theorem beginPosition_eq (s : State) :
    s.beginPosition = (s.finishPosition.setTracker s.finishPosition.tracker.advanced).returnMasked := rfl

/-- A position at which no beat is due. -/
theorem beginPosition_of_not_due {s : State}
    (h : s.finishPosition.tracker.dueAt (s.finishPosition.tracker.position + 1) = false) :
    s.beginPosition = s.finishPosition.setTracker s.finishPosition.tracker.advanced := by
  rw [beginPosition_eq]
  exact if_neg (by rw [Bool.not_eq_true]; exact h)

/-- A position with the beat due at it returned. -/
theorem beginPosition_of_due {s : State}
    (h : s.finishPosition.tracker.dueAt (s.finishPosition.tracker.position + 1) = true) :
    s.beginPosition = (s.finishPosition.setTracker s.finishPosition.tracker.advanced.returned).settleRestart := by
  rw [beginPosition_eq]
  exact if_pos h

theorem beginPosition_keepsPart (s : State) : KeepsPart s s.beginPosition := by
  refine (finishPosition_keepsPart s).trans ?_
  cases h : s.finishPosition.tracker.dueAt (s.finishPosition.tracker.position + 1) with
  | false =>
    rw [beginPosition_of_not_due h]
    exact setTracker_keepsPart _ rfl id
  | true =>
    rw [beginPosition_of_due h]
    exact setTracker_settleRestart_keepsPart _ rfl

theorem beginPosition_ok {s : State} (h : s.tracker.Ok) : s.beginPosition.tracker.Ok := by
  have hf := finishPosition_ok h
  cases hd : s.finishPosition.tracker.dueAt (s.finishPosition.tracker.position + 1) with
  | false =>
    rw [beginPosition_of_not_due hd]
    exact hf.advanced (hf.due_length_of_not_due hd)
  | true =>
    rw [beginPosition_of_due hd, settleRestart_tracker]
    exact hf.advanced_returned hd

/-- The marks of a position that has just begun. -/
theorem beginPosition_marks (s : State) :
    s.beginPosition.tracker.beatDone = false ∧ s.beginPosition.tracker.resumed = false ∧
      s.beginPosition.tracker.arrived = false := by
  cases hd : s.finishPosition.tracker.dueAt (s.finishPosition.tracker.position + 1) with
  | false => rw [beginPosition_of_not_due hd]; exact ⟨rfl, rfl, rfl⟩
  | true => rw [beginPosition_of_due hd, settleRestart_tracker]; exact ⟨rfl, rfl, rfl⟩

theorem passPositions_keepsPart (s : State) (n : Nat) : KeepsPart s (s.passPositions n) := by
  induction n generalizing s with
  | zero => exact .refl s
  | succ n ih => exact (beginPosition_keepsPart s).trans (ih _)

theorem passPositions_ok {s : State} (h : s.tracker.Ok) (n : Nat) : (s.passPositions n).tracker.Ok := by
  induction n generalizing s with
  | zero => exact h
  | succ n ih => exact ih (beginPosition_ok h)

theorem passBegun_keepsPart (s : State) (c : Bool) : KeepsPart s (s.passBegun c) := by
  unfold State.passBegun; split
  · exact beginPosition_keepsPart s
  · exact .refl s

theorem passBegun_ok {s : State} (h : s.tracker.Ok) (c : Bool) : (s.passBegun c).tracker.Ok := by
  unfold State.passBegun; split
  · exact beginPosition_ok h
  · exact h

theorem untilDue_cons {s : State} {d : Nat} {ds : List Nat} (h : s.tracker.due = d :: ds) :
    s.untilDue = (s.passPositions (d - (s.tracker.position + 1))).finishPosition := by
  simp only [State.untilDue, h]

theorem untilDue_nil {s : State} (h : s.tracker.due = []) : s.untilDue = s := by simp only [State.untilDue, h]

theorem untilDue_keepsPart (s : State) : KeepsPart s s.untilDue := by
  cases h : s.tracker.due with
  | nil => rw [untilDue_nil h]; exact .refl s
  | cons d ds => rw [untilDue_cons h]; exact (passPositions_keepsPart s _).trans (finishPosition_keepsPart _)

theorem untilDue_ok {s : State} (h : s.tracker.Ok) : s.untilDue.tracker.Ok := by
  cases hd : s.tracker.due with
  | nil => rwa [untilDue_nil hd]
  | cons d ds => rw [untilDue_cons hd]; exact finishPosition_ok (passPositions_ok h _)

/-- A command at its position, where it is re-driven (R3). -/
theorem atPosition_keepsPart (s : State) (c : BusCommand) : KeepsPart s (s.atPosition c) :=
  KeepsPart.trans (t := s.driveCommand c) ⟨rfl, rfl, rfl, id, id⟩ (beginPosition_keepsPart _)

theorem atPosition_ok {s : State} (h : s.tracker.Ok) (c : BusCommand) : (s.atPosition c).tracker.Ok :=
  beginPosition_ok (s := s.driveCommand c) h

theorem atPosition_beatDone (s : State) (c : BusCommand) : (s.atPosition c).tracker.beatDone = false :=
  (beginPosition_marks _).1

/-! ### Anomalies (R21) -/

@[simp] theorem hand_tracker (s : State) (ns : List Notice) : (s.hand ns).tracker = s.tracker := by
  rw [State.hand, drain_frame]

@[simp] theorem anomaly_tracker (s : State) (k : Nat) : (s.anomaly k).tracker = s.tracker := hand_tracker _ _

@[simp] theorem anomalyIf_tracker (s : State) (c : Bool) (k : Nat) : (s.anomalyIf c k).tracker = s.tracker := by
  unfold State.anomalyIf; split
  · exact anomaly_tracker s k
  · rfl

theorem anomaly_inboxOk (s : State) (k : Nat) : (s.anomaly k).InboxOk := hand_inboxOk _ _

theorem anomalyIf_inboxOk {s : State} (h : s.InboxOk) (c : Bool) (k : Nat) : (s.anomalyIf c k).InboxOk := by
  unfold State.anomalyIf; split
  · exact anomaly_inboxOk s k
  · exact h

/-- The record of an anomaly waits behind what waits (R21). -/
theorem anomaly_eq {s : State} (h : s.InboxOk) (k : Nat) :
    s.anomaly k = { s with inbox := s.inbox ++ [.record (s.mkRecord .bus 0 25 .occurrence k)] } :=
  handRecord_eq s _ h

theorem anomalyIf_eq {s : State} (h : s.InboxOk) (c : Bool) (k : Nat) :
    s.anomalyIf c k =
      { s with inbox := s.inbox ++ if c then [.record (s.mkRecord .bus 0 25 .occurrence k)] else [] } := by
  cases c with
  | true => exact anomaly_eq h k
  | false => simp [State.anomalyIf]

/-! ### READ and WRITE (R12, R14, R15, R19) -/

/-- The anomalies of an access stand on either side of the end of the burst in flight. -/
theorem access_eq (s : State) (b : Fin 4) :
    s.access b =
      ((s.anomalyIf (s.tracker.interrupts b) 8).setTracker (s.tracker.endBurst (.access b))).anomalyIf
        ((s.tracker.endBurst (.access b)).banks[b] == .idle) 1 := by
  simp only [State.access, anomalyIf_tracker, State.setTracker_tracker]

@[simp] theorem access_tracker (s : State) (b : Fin 4) : (s.access b).tracker = s.tracker.endBurst (.access b) := by
  simp [access_eq]

theorem access_inboxOk {s : State} (h : s.InboxOk) (b : Fin 4) : (s.access b).InboxOk := by
  have h8 := anomalyIf_inboxOk h (s.tracker.interrupts b) 8
  rw [access_eq]
  exact anomalyIf_inboxOk (by exact h8) _ 1

theorem takeReadCommand_inboxOk {s : State} (h : s.InboxOk) (b : Fin 4) (c : Column) (auto : Bool) :
    (s.takeReadCommand b c auto).InboxOk := by
  have ha := access_inboxOk h b
  unfold State.takeReadCommand; simp only []
  split
  · exact (issueBeat_keepsPart _ _ _).inbox ha
  · exact ha

theorem takeReadCommand_ok {s : State} (h : s.tracker.Ok) (hb : s.tracker.beatDone = false) (b : Fin 4) (c : Column)
    (auto : Bool) : (s.takeReadCommand b c auto).tracker.Ok := by
  unfold State.takeReadCommand; simp only [access_tracker]
  have he := h.endBurst (.access b)
  split
  · have hd : (s.tracker.endBurst (.access b)).beatDone = false := by simpa using hb
    exact issueBeat_ok (he.addEntry hd (Tracker.endBurst_burst _ _) _ rfl rfl rfl) hd _ _
  · simpa using he

theorem takeWriteCommand_inboxOk {s : State} (h : s.InboxOk) (b : Fin 4) (c : Column) (auto : Bool) (data : Word)
    (m : Mask) : (s.takeWriteCommand b c auto data m).InboxOk :=
  (issueBeat_keepsPart _ data m).inbox (access_inboxOk h b)

theorem takeWriteCommand_ok {s : State} (h : s.tracker.Ok) (hb : s.tracker.beatDone = false) (b : Fin 4) (c : Column)
    (auto : Bool) (data : Word) (m : Mask) : (s.takeWriteCommand b c auto data m).tracker.Ok := by
  unfold State.takeWriteCommand; simp only [access_tracker]
  exact issueBeat_ok ((h.endBurst (.access b)).addWrite (Tracker.endBurst_burst _ _) _) (by simpa using hb) _ _

/-! ### The other commands -/

theorem Tracker.takeClose_eq (t : Tracker) (b : Fin 4) :
    t.takeClose b =
      { (if t.burst.map (·.1) = some b then t.stopBurst else t) with banks := t.banks.set b .idle } := by
  unfold Tracker.takeClose
  cases h : t.burst with
  | none => rfl
  | some x =>
    by_cases hb : x.1 = b
    · simp [hb, Tracker.endBurst_command, h, Tracker.setBank]
    · simp [hb, Tracker.setBank]

theorem Tracker.Ok.takeClose {t : Tracker} (h : t.Ok) (b : Fin 4) : (t.takeClose b).Ok := by
  rw [Tracker.takeClose_eq]
  split
  · exact h.stopBurst.setBanksTo _
  · exact h.setBanksTo _

theorem takeRefresh_ok {s : State} (h : s.tracker.Ok) : s.takeRefresh.tracker.Ok := by
  unfold State.takeRefresh; split
  · exact (h.endBurst .command).setBanksTo _
  · exact h

theorem takeRefresh_inboxOk {s : State} (h : s.InboxOk) : s.takeRefresh.InboxOk := by
  unfold State.takeRefresh; split
  · exact anomaly_inboxOk s 3
  · exact h

theorem takeSleep_ok {s : State} (h : s.tracker.Ok) : s.takeSleep.tracker.Ok := by
  unfold State.takeSleep; simp only [State.haltStallTimers, State.mapFaces_tracker, State.setTracker_tracker]
  split <;> exact Tracker.ok_of_empty (by simpa [Tracker.setBanks] using h.1) rfl rfl

theorem takeSleep_inboxOk {s : State} (h : s.InboxOk) : s.takeSleep.InboxOk :=
  anomalyIf_inboxOk h s.tracker.anyOpen 5

theorem takeModeLoad_ok {s : State} (h : s.tracker.Ok) (c : ModeCodes) : (s.takeModeLoad c).tracker.Ok := by
  have he := h.endBurst .command
  have hb : ∀ o : Bool, Tracker.Ok
      (if o then (s.tracker.endBurst .command).setBanks .unknown else s.tracker.endBurst .command) := by
    intro o; cases o with
    | false => exact he
    | true => exact he.setBanksTo _
  unfold State.takeModeLoad; simp only []
  split
  · exact (hb _).setModeTo _ (codesImage_latency (by assumption) _)
  · exact Tracker.ok_of_empty h.1 rfl rfl

theorem takeModeLoad_inboxOk (s : State) (c : ModeCodes) : (s.takeModeLoad c).InboxOk := by
  unfold State.takeModeLoad; simp only []
  split <;> exact hand_inboxOk _ _

end Sys2Proof.Machine
end

section
/-! SUPPORT. Every command and every step keeps the read-return queue as R16 and R17 describe it. -/

namespace Sys2Proof.Machine

/-- What every step keeps of the read-return queue, of what waits and of a pending restart (R16, R17, R147, R167). -/
structure KeepsQueue (s t : State) : Prop where
  ok : s.tracker.Ok → t.tracker.Ok
  waits : s.InboxOk ∧ s.RestartOk → t.InboxOk ∧ t.RestartOk

theorem KeepsQueue.refl (s : State) : KeepsQueue s s := ⟨id, id⟩

theorem KeepsQueue.trans {s t u : State} (h : KeepsQueue s t) (k : KeepsQueue t u) : KeepsQueue s u :=
  ⟨k.ok ∘ h.ok, k.waits ∘ h.waits⟩

theorem KeepsTracker.keepsQueue {s t : State} (h : KeepsTracker s t) : KeepsQueue s t :=
  ⟨h.ok, fun hw => ⟨h.inbox hw.1, h.restart hw.2⟩⟩

theorem KeepsPart.keepsQueue {s t : State} (h : KeepsPart s t) (hok : s.tracker.Ok → t.tracker.Ok) : KeepsQueue s t :=
  ⟨hok, fun hw => ⟨h.inbox hw.1, h.restart hw.2⟩⟩

theorem KeepsQueue.ite {s a b : State} {c : Prop} [Decidable c] (ha : KeepsQueue s a) (hb : KeepsQueue s b) :
    KeepsQueue s (if c then a else b) := by split <;> assumption

/-! ### The bus commands -/

/-- A bus command that keeps the queue at its position keeps it, settled restart and all. -/
theorem busCommand_keepsQueue (s : State) (c : BusCommand) {f : State → State}
    (hok : ∀ p : State, p.tracker.Ok → p.tracker.beatDone = false → (f p).tracker.Ok)
    (hin : ∀ p : State, p.InboxOk → (f p).InboxOk) : KeepsQueue s (s.busCommand c f) := by
  cases ht : s.takesBus with
  | false =>
    rw [busCommand_of_not_takesBus s c f ht]
    exact ⟨id, id⟩
  | true =>
    rw [busCommand_of_takesBus s c f ht]
    refine ⟨fun h => ?_, fun hw => ⟨?_, settleRestart_restartOk _⟩⟩
    · rw [settleRestart_tracker]
      exact hok _ (atPosition_ok h c) (atPosition_beatDone s c)
    · exact (settleRestart_keepsTracker _).inbox (hin _ ((atPosition_keepsPart s c).inbox hw.1))

theorem beginPosition_keepsQueue (s : State) : KeepsQueue s s.beginPosition :=
  (beginPosition_keepsPart s).keepsQueue beginPosition_ok

/-- A store state does not enter into what is kept. -/
theorem setStore_keepsQueue (s : State) (x : StoreState) : KeepsQueue s (s.setStore x) := ⟨id, id⟩

theorem suspend_keepsQueue (s : State) (c : Bool) : KeepsQueue s ((s.passBegun c).finishPosition.setStore .suspended) :=
  KeepsQueue.trans
    (((passBegun_keepsPart s c).trans (finishPosition_keepsPart _)).keepsQueue fun h =>
      finishPosition_ok (passBegun_ok h c))
    (setStore_keepsQueue _ _)

theorem sleepExit_keepsQueue (s : State) :
    KeepsQueue s (((s.driveCommand .sleepExit).setStore .awake).beginPosition).restartStallTimers :=
  KeepsQueue.trans (t := (s.driveCommand .sleepExit).setStore .awake) ⟨id, id⟩
    ((beginPosition_keepsQueue _).trans ⟨id, id⟩)

/-! ### Beats -/

theorem burstBeat_keepsQueue (s : State) (data : Word) (m : Mask) : KeepsQueue s (s.burstBeat data m) := by
  unfold State.burstBeat
  split
  · exact (beginPosition_keepsQueue s).trans ((issueBeat_keepsPart _ data m).keepsQueue fun h =>
      issueBeat_ok h (beginPosition_marks s).1 data m)
  · rename_i hb
    exact (issueBeat_keepsPart s data m).keepsQueue fun h => issueBeat_ok h (by simpa using hb) data m

theorem driveIfWrite_keepsQueue (s : State) (data : Word) (m : Mask) : KeepsQueue s (s.driveIfWrite data m) :=
  .ite ⟨id, id⟩ (.refl s)

theorem returnDelivered_keeps (s : State) (w : Option Nat) (data : Word) :
    (s.tracker.Ok → (s.returnDelivered w data).tracker.Ok) ∧ (s.InboxOk → (s.returnDelivered w data).InboxOk) ∧
      (s.returnDelivered w data).RestartOk := by
  unfold State.returnDelivered State.readBeat
  split
  · have h1 : KeepsTracker s.settleRestart (s.settleRestart.takeRead (s.settleRestart.classify w) data) :=
      takeRead_keepsTracker _ _ _
    have h2 : KeepsTracker s (s.takeRead (s.classify w) data).settleRestart :=
      (takeRead_keepsTracker s _ _).trans (settleRestart_keepsTracker _)
    cases Config.restartBeforeBeat s.choices with
    | true =>
      have h := (settleRestart_keepsTracker s).trans h1
      exact ⟨h.ok, h.inbox, h1.restart (settleRestart_restartOk s)⟩
    | false => exact ⟨h2.ok, h2.inbox, settleRestart_restartOk _⟩
  · rename_i hp
    have h := takeRead_keepsTracker s (s.classify w) data
    refine ⟨h.ok, h.inbox, h.restart fun hr hq => hp ?_⟩
    simp [hr, hq]

theorem takeReturn_keepsQueue (s : State) (data : Word) (m : Mask) (cd : Bool) :
    KeepsQueue s (s.takeReturn data m cd) := by
  unfold State.takeReturn
  split
  · exact .refl s
  · rename_i e _
    cases hd : s.tracker.dueAt (s.tracker.position + 1) with
    | false => exact .refl s
    | true =>
      simp only [Bool.not_true, Bool.false_eq_true, if_false]
      split
      · obtain ⟨h1, h2, h3⟩ := returnDelivered_keeps (s.setTracker s.tracker.returned).noteArrival
          (e.address s.strapImage.map) data
        exact ⟨fun h => h1 (h.returned hd), fun hw => ⟨h2 hw.1, h3⟩⟩
      · have h := settleRestart_keepsTracker ((s.setTracker s.tracker.returned).noteArrival.deliver data)
        exact ⟨fun hs => h.ok (hs.returned hd), fun hw => ⟨h.inbox hw.1, settleRestart_restartOk _⟩⟩

theorem takeUnplaced_keepsQueue (s : State) (data : Word) (m : Mask) (cd : Bool) :
    KeepsQueue s (s.takeUnplaced data m cd) := by
  have h : KeepsQueue s s.finishPosition.noteArrival :=
    ((finishPosition_keepsPart s).keepsQueue finishPosition_ok).trans ⟨id, id⟩
  exact .ite (.refl s) (.ite (h.trans (takeRead_keepsTracker _ _ _).keepsQueue) (h.trans ⟨id, id⟩))

/-! ### Every command -/

/-- At reset nothing is outstanding, nothing waits and no restart is pending. -/
theorem held_keepsQueue (s : State) (p : Option Straps) (bus : BusOut) (n : Nat) (cs : List Instr) :
    KeepsQueue s (State.held p bus n cs) :=
  ⟨fun _ => Tracker.ok_of_empty (.inl rfl) rfl rfl,
    fun _ => ⟨by simp [State.InboxOk, State.held], by simp [State.RestartOk, State.held, Report.reset]⟩⟩

/-- The command answers next states alone, and each of them keeps the queue. -/
def AnswersKeepQueue (s : State) (o : Host.Outcome State Fault Refusal) : Prop := ∃ t, o = .next t ∧ KeepsQueue s t

theorem answersKeepQueue_next {s t : State} (h : KeepsQueue s t) : AnswersKeepQueue s (.next t) := ⟨t, rfl, h⟩

theorem exec_answersKeepQueue (s : State) (c : Instr) : AnswersKeepQueue s (exec c s) := by
  cases c with
  | powerOnReset => exact answersKeepQueue_next (held_keepsQueue s _ _ _ _)
  | resetLine => exact answersKeepQueue_next (held_keepsQueue s _ _ _ _)
  | resetRelease p =>
    have h := held_keepsQueue s (some p) s.bus s.choices s.pending
    exact answersKeepQueue_next (.ite (h.trans ⟨id, id⟩) (.refl s))
  | suspend => exact answersKeepQueue_next (.ite (suspend_keepsQueue s _) (.refl s))
  | resume => exact answersKeepQueue_next (.ite (.refl s) ⟨id, id⟩)
  | openBank b r =>
    exact answersKeepQueue_next (busCommand_keepsQueue s _ (fun _ h _ => h.setBanksTo _)
      fun _ h => anomalyIf_inboxOk h _ 2)
  | read b c auto =>
    exact answersKeepQueue_next (busCommand_keepsQueue s _ (fun _ h hb => takeReadCommand_ok h hb b c auto)
      fun _ h => takeReadCommand_inboxOk h b c auto)
  | write b c auto data m =>
    have h := busCommand_keepsQueue (s.driveStore data m) (.write b c auto)
      (fun _ h hb => takeWriteCommand_ok h hb b c auto data m) fun _ h => takeWriteCommand_inboxOk h b c auto data m
    exact answersKeepQueue_next (KeepsQueue.trans (t := s.driveStore data m) ⟨id, id⟩ h)
  | close b => exact answersKeepQueue_next (busCommand_keepsQueue s _ (fun _ h _ => h.takeClose b) fun _ h => h)
  | closeAll =>
    exact answersKeepQueue_next (busCommand_keepsQueue s _ (fun _ h _ => (h.endBurst .command).setBanksTo _)
      fun _ h => h)
  | refresh =>
    exact answersKeepQueue_next (busCommand_keepsQueue s _ (fun _ h _ => takeRefresh_ok h)
      fun _ h => takeRefresh_inboxOk h)
  | sleepEnter =>
    exact answersKeepQueue_next (((passBegun_keepsPart s _).keepsQueue fun h => passBegun_ok h _).trans
      (busCommand_keepsQueue _ _ (fun _ h _ => takeSleep_ok h) fun _ h => takeSleep_inboxOk h))
  | sleepExit => exact answersKeepQueue_next (.ite ⟨id, id⟩ (sleepExit_keepsQueue s))
  | modeLoad c =>
    exact answersKeepQueue_next (busCommand_keepsQueue s _ (fun _ h _ => takeModeLoad_ok h c)
      fun p _ => takeModeLoad_inboxOk p c)
  | burstStop =>
    exact answersKeepQueue_next (busCommand_keepsQueue s _ (fun _ h _ => h.endBurst .burstStop) fun _ h => h)
  | noOperation => exact answersKeepQueue_next (busCommand_keepsQueue s _ (fun _ h _ => h) fun _ h => h)
  | burstBeatIssue data m =>
    exact answersKeepQueue_next (.ite ⟨id, id⟩
      (.ite ((driveIfWrite_keepsQueue s data m).trans (burstBeat_keepsQueue _ data m)) (.refl s)))
  | burstComplete data m =>
    exact answersKeepQueue_next (.ite ⟨id, id⟩
      (.ite ((driveIfWrite_keepsQueue s data m).trans (burstBeat_keepsQueue _ data m)) (.refl s)))
  | readBeatReturn data m cd =>
    exact answersKeepQueue_next (.ite ⟨id, id⟩
      (.ite (((untilDue_keepsPart s).keepsQueue untilDue_ok).trans (takeReturn_keepsQueue _ data m cd)) (.refl s)))
  | unplacedArrival data m cd =>
    exact answersKeepQueue_next (.ite ⟨id, id⟩
      (.ite (((passBegun_keepsPart s _).keepsQueue fun h => passBegun_ok h _).trans
        (takeUnplaced_keepsQueue _ data m cd))
        (.refl s)))
  | stagingWrite off data m => exact answersKeepQueue_next (serviceWrite_keepsTracker s _ _ _).keepsQueue
  | timeWordWrite data m => exact answersKeepQueue_next (serviceWrite_keepsTracker s _ _ _).keepsQueue
  | modeDeclaration data m => exact answersKeepQueue_next (serviceWrite_keepsTracker s _ _ _).keepsQueue
  | commitRequest data m => exact answersKeepQueue_next (serviceWrite_keepsTracker s _ _ _).keepsQueue
  | validationFailure =>
    refine answersKeepQueue_next (.ite (.refl s) ?_)
    split
    · exact ⟨id, id⟩
    · exact .refl s
  | switch => exact answersKeepQueue_next (.ite (.refl s) (switched_keepsTracker s).keepsQueue)
  | restartRequest data m => exact answersKeepQueue_next (serviceWrite_keepsTracker s _ _ _).keepsQueue
  | monitorRestart => exact answersKeepQueue_next (.ite (.refl s) (restart_keepsTracker s).keepsQueue)
  | run f up m => exact answersKeepQueue_next (serviceWrite_keepsTracker s _ _ _).keepsQueue
  | hold f up m => exact answersKeepQueue_next (serviceWrite_keepsTracker s _ _ _).keepsQueue
  | blank f up m => exact answersKeepQueue_next (serviceWrite_keepsTracker s _ _ _).keepsQueue
  | dark f up m => exact answersKeepQueue_next (serviceWrite_keepsTracker s _ _ _).keepsQueue
  | release f up m => exact answersKeepQueue_next (serviceWrite_keepsTracker s _ _ _).keepsQueue
  | oneMsEvent =>
    exact answersKeepQueue_next (.ite (.refl s) ((settleTime_keepsTracker s).trans (ms1_keepsTracker _)).keepsQueue)
  | dimmingTick => exact answersKeepQueue_next (.ite (.refl s) (takeTick_keepsTracker s).keepsQueue)
  | sensorFrameArrival n0 n1 n2 n3 n4 n5 =>
    exact answersKeepQueue_next (.ite (.refl s) (.ite (goodFrame_keepsTracker s _ _ _).keepsQueue
      (badSample_keepsTracker s _).keepsQueue))
  | sensorIncompleteFrame => exact answersKeepQueue_next (.ite (.refl s) ⟨id, id⟩)
  | staleTimerExpiry ch => exact answersKeepQueue_next (.ite (.refl s) (staleExpiry_keepsTracker s ch).keepsQueue)
  | stallTimerExpiry f => exact answersKeepQueue_next (.ite (.refl s) (stallExpiry_keepsTracker s f).keepsQueue)
  | tileFrameArrival b0 b1 b2 b3 b4 =>
    exact answersKeepQueue_next (.ite (.refl s) (.ite ⟨id, id⟩ (.ite ⟨id, id⟩
      (goodTile_keepsTracker s _ _ _ _ _).keepsQueue)))
  | tileIncompleteFrame => exact answersKeepQueue_next (.ite (.refl s) ⟨id, id⟩)
  | silentTimerExpiry f i => exact answersKeepQueue_next (.ite (.refl s) (silentExpiry_keepsTracker s f i).keepsQueue)
  | record =>
    refine answersKeepQueue_next (.ite (.refl s) ?_)
    split
    · exact (((takeRecord_keepsTracker s _).trans (modReport_keepsTracker _ choice_restartPending)).trans
        (drain_keepsTracker _ _)).keepsQueue
    · exact (drain_keepsTracker s _).keepsQueue
  | choice => exact answersKeepQueue_next (.ite (.refl s) (modReport_keepsTracker s choice_restartPending).keepsQueue)
  | writeEnd =>
    exact answersKeepQueue_next (.ite (.refl s) (modReport_keepsTracker s writeEnd_restartPending).keepsQueue)
  | acknowledgment k m => exact answersKeepQueue_next (serviceWrite_keepsTracker s _ _ _).keepsQueue
  | slotInactive k m => exact answersKeepQueue_next (serviceWrite_keepsTracker s _ _ _).keepsQueue
  | filterWrite k data m => exact answersKeepQueue_next (serviceWrite_keepsTracker s _ _ _).keepsQueue
  | headerRead k => exact answersKeepQueue_next (reportReadBeat_keepsTracker s _).keepsQueue
  | stampWordRead => exact answersKeepQueue_next (reportReadBeat_keepsTracker s _).keepsQueue
  | reservedWrite off data m => exact answersKeepQueue_next (serviceWrite_keepsTracker s _ _ _).keepsQueue

theorem step_answersKeepQueue (s : State) : AnswersKeepQueue s (step s) := by
  unfold step
  split
  · exact answersKeepQueue_next (clockCycle_keepsTracker s).keepsQueue
  · rename_i c rest _
    obtain ⟨t, ht, hk⟩ := exec_answersKeepQueue { s with pending := rest } c
    exact ⟨t, ht, KeepsQueue.trans (t := { s with pending := rest }) ⟨id, id⟩ hk⟩

/-- Settles O22: every command leaves the tracker as R16 and R17 describe it, by what it does to its position, and
every other operation leaves the tracker alone. -/
theorem stepKeepsTheReadReturnQueue : Obligations.StepKeepsTheReadReturnQueue := by
  intro s t h
  obtain ⟨t', ht, hk⟩ := step_answersKeepQueue s
  obtain rfl : t' = t := by rw [ht] at h; injection h
  exact ⟨hk.ok, hk.waits⟩

end Sys2Proof.Machine
end

section
/-! SUPPORT. The columns of a burst and the two linearisations (R11, R20, R25). -/

namespace Sys2Proof.Machine

/-! ### Columns of a burst (R11) -/

/-- The fixed lengths are the powers of 2 up to 8. -/
theorem beats_eq_two_pow {len : BurstLength} {n : Nat} (h : len.beats = some n) : ∃ i ≤ 3, n = 2 ^ i := by
  cases len <;> simp only [BurstLength.beats, Option.some.injEq, reduceCtorEq] at h <;> subst h
  · exact ⟨0, by omega, rfl⟩
  · exact ⟨1, by omega, rfl⟩
  · exact ⟨2, by omega, rfl⟩
  · exact ⟨3, by omega, rfl⟩

/-- The place of beat k within its block. -/
def blockOffset (order : BurstOrder) (n start k : Nat) : Nat :=
  match order with
  | .sequential => (start % n + k) % n
  | .interleaved => start % n ^^^ k

/-- A burst of a fixed length stays in the block of its start column. -/
theorem burstColumn_eq_blockOffset {len : BurstLength} {n : Nat} (h : len.beats = some n) (order : BurstOrder)
    (c : Column) (k : Nat) : burstColumn len order c k = c.toNat / n * n + blockOffset order n c.toNat k := by
  have hblock : c.toNat - c.toNat % n = c.toNat / n * n := by
    have := Nat.div_add_mod' c.toNat n
    omega
  cases order <;> simp only [burstColumn, h, hblock, blockOffset]

theorem blockOffset_lt (order : BurstOrder) (i start : Nat) {k : Nat} (hk : k < 2 ^ i) :
    blockOffset order (2 ^ i) start k < 2 ^ i := by
  have hpos : 0 < 2 ^ i := Nat.two_pow_pos i
  cases order with
  | sequential => exact Nat.mod_lt _ hpos
  | interleaved => exact Nat.xor_lt_two_pow (Nat.mod_lt _ hpos) hk

/-- Both orders visit each place of a block once. -/
theorem blockOffset_injective (order : BurstOrder) (n start : Nat) {j k : Nat} (hj : j < n) (hk : k < n)
    (h : blockOffset order n start j = blockOffset order n start k) : j = k := by
  cases order with
  | sequential =>
    have h : j ≡ k [MOD n] := Nat.ModEq.add_left_cancel' _ h
    exact Nat.ModEq.eq_of_lt_of_lt h hj hk
  | interleaved => exact Nat.xor_right_injective h

theorem blockOffset_zero (order : BurstOrder) (n start : Nat) : blockOffset order n start 0 = start % n := by
  cases order <;> simp [blockOffset]

/-- The first beat of a burst is at its start column. -/
theorem burstColumn_zero (len : BurstLength) (order : BurstOrder) (c : Column) :
    burstColumn len order c 0 = c.toNat := by
  cases h : len.beats with
  | none =>
    have := c.isLt
    simp only [burstColumn, h]; omega
  | some n => rw [burstColumn_eq_blockOffset h, blockOffset_zero, Nat.div_add_mod']

/-- A block of a fixed length lies within the row. -/
theorem block_le (c : Column) {i : Nat} (hi : i ≤ 3) : c.toNat / 2 ^ i * 2 ^ i + 2 ^ i ≤ 512 := by
  have := c.isLt
  interval_cases i <;> omega

/-- A fixed length visits every column of its block once (R11). -/
theorem burstColumn_fixed {len : BurstLength} {n : Nat} (h : len.beats = some n) (order : BurstOrder) (c : Column) :
    (∀ k, k < n → c.toNat / n * n ≤ burstColumn len order c k ∧ burstColumn len order c k < c.toNat / n * n + n ∧
      burstColumn len order c k < 512) ∧
    (∀ j k, j < n → k < n → burstColumn len order c j = burstColumn len order c k → j = k) := by
  obtain ⟨i, hi, rfl⟩ := beats_eq_two_pow h
  simp only [burstColumn_eq_blockOffset h]
  refine ⟨fun k hk => ?_, fun j k hj hk hjk => blockOffset_injective order _ _ hj hk (Nat.add_left_cancel hjk)⟩
  have hlt := blockOffset_lt order i c.toNat hk
  have hle := block_le c hi
  omega

/-! ### The linearisations (R20, R25) -/

theorem wordAddress_lt (map : Bool) (b : Fin 4) (r : Row) (c : Column) : wordAddress map b r c.toNat < 16777216 := by
  have := r.isLt; have := c.isLt; have := b.isLt
  unfold wordAddress; split <;> omega

theorem wordAddress_injective (map : Bool) {b b' : Fin 4} {r r' : Row} {c c' : Column}
    (h : wordAddress map b r c.toNat = wordAddress map b' r' c'.toNat) : b = b' ∧ r = r' ∧ c = c' := by
  have := r.isLt; have := c.isLt; have := b.isLt; have := r'.isLt; have := c'.isLt; have := b'.isLt
  have h3 : b.val = b'.val ∧ r.toNat = r'.toNat ∧ c.toNat = c'.toNat := by
    cases map <;> simp only [wordAddress, if_true, Bool.false_eq_true, if_false] at h <;> omega
  obtain ⟨hb, hr, hc⟩ := h3
  exact ⟨Fin.ext hb, BitVec.eq_of_toNat_eq hr, BitVec.eq_of_toNat_eq hc⟩

/-- Settles O20: a fixed length visits its block by `burstColumn_fixed`, and a word address gives back its parts. -/
theorem burstColumnsAndWordAddresses : Obligations.BurstColumnsAndWordAddresses := by
  refine ⟨fun len order c => ?_, fun map b b' r r' c c' =>
    ⟨wordAddress_lt map b r c, rfl, rfl, wordAddress_injective map⟩⟩
  have hfixed {n : Nat} (h : len.beats = some n) := And.intro
    (fun k (_ : k < n) => And.intro (burstColumn_eq_blockOffset h .sequential c k)
      (burstColumn_eq_blockOffset h .interleaved c k))
    (burstColumn_fixed h order c)
  refine ⟨burstColumn_zero len order c, ?_⟩
  cases len with
  | fullRow => exact ⟨fun n h => (nomatch h), fun _ k => rfl⟩
  | one => exact ⟨fun n h => hfixed h, fun h => nomatch h⟩
  | two => exact ⟨fun n h => hfixed h, fun h => nomatch h⟩
  | four => exact ⟨fun n h => hfixed h, fun h => nomatch h⟩
  | eight => exact ⟨fun n h => hfixed h, fun h => nomatch h⟩

end Sys2Proof.Machine
end

section
/-! SUPPORT. The statements about positions and the bus commands (R1 to R8, R10 to R15, R19). -/

namespace Sys2Proof.Machine

/-! ### Positions -/

theorem dueAt_of_not_due {t : Tracker} {p : Nat} (h : ∀ d ∈ t.due.head?, p < d) : t.dueAt p = false := by
  unfold Tracker.dueAt
  split
  · rename_i d ds hd
    simpa using h d (by simp [hd])
  · rfl

theorem dueAt_of_due {t : Tracker} {p : Nat} (h : ∃ d ∈ t.due.head?, d ≤ p) : t.dueAt p = true := by
  obtain ⟨d, hd, hle⟩ := h
  obtain ⟨ds, hds⟩ := List.head?_eq_some_iff.mp hd
  simpa [Tracker.dueAt, hds] using hle

/-- Settles O18: a finished position passes on as it is, with the beat due at the next one returned, and an unfinished
one issues its beat first. -/
theorem positionBegins : Obligations.PositionBegins := by
  intro s
  refine ⟨fun hf hd => ?_, fun hf hd => ?_, fun hb hn => ?_⟩
  · have hs := finishPosition_of_finished hf
    rw [beginPosition_of_not_due (by rw [hs]; exact dueAt_of_not_due hd), hs]
    rfl
  · have hs := finishPosition_of_finished hf
    rw [beginPosition_of_due (by rw [hs]; exact dueAt_of_due hd), hs]
    rfl
  · rw [← finishPosition_of_not_done hb, beginPosition_finishPosition]

/-- Settles O13: the entries that stop keep their beats, and what has none outstanding leaves. -/
theorem endedBurstKeepsItsIssuedBeats : Obligations.EndedBurstKeepsItsIssuedBeats := by
  intro t h
  refine ⟨t.stopBurst_burst, h.stopBurst, rfl, rfl, rfl, rfl, fun e he hi => ?_, fun e he hi hlt => ?_⟩
  · rw [Tracker.stopBurst_queue, mem_staying]
    obtain ⟨-, hok, -⟩ := h
    exact ⟨List.mem_map.mpr ⟨e, he, ReadEntry.stopped_of_not_issuing hi⟩, (hok e he).2⟩
  · rw [Tracker.stopBurst_queue, mem_staying, stays_iff]
    exact ⟨List.mem_map.mpr ⟨e, he, ReadEntry.stopped_of_issuing hi⟩, .inr (by simp only []; omega)⟩

/-! ### OPEN, CLOSE, CLOSE_ALL and REFRESH -/

/-- A bus command in a position, by what it does at it. -/
theorem busCommand_eq {s : State} (ht : s.takesBus = true) (c : BusCommand) {f : State → State} {t : State}
    (h : f (s.atPosition c) = t) :
    (Host.Outcome.next (s.busCommand c f) : Host.Outcome State Fault Refusal) = .next t.settleRestart := by
  rw [busCommand_of_takesBus s c f ht, h]

/-- The same where the command leaves no restart to settle. -/
theorem busCommand_eq_of_restartOk {s : State} (ht : s.takesBus = true) (c : BusCommand) {f : State → State} {t : State}
    (h : f (s.atPosition c) = t) (hr : t.RestartOk) :
    (Host.Outcome.next (s.busCommand c f) : Host.Outcome State Fault Refusal) = .next t := by
  rw [busCommand_eq ht c h, settleRestart_of_restartOk hr]

/-- Settles O8: an OPEN sets its bank and hands over its anomaly; the queue stands, so no restart is settled. -/
theorem openCommand : Obligations.OpenCommand := by
  intro s b r ht hin hre
  have hp := atPosition_keepsPart s (.openBank b r)
  refine busCommand_eq_of_restartOk ht _ ?_ (hp.restart hre)
  rw [State.takeOpen, anomalyIf_eq (hp.inbox hin)]
  rfl

theorem takeRefresh_eq {p : State} (hin : p.InboxOk) :
    p.takeRefresh =
      if p.tracker.banks.toList.any Bank.isOpen then
        { p with
          tracker := { (if p.tracker.burst.isSome then p.tracker.stopBurst else p.tracker) with
            banks := tabulate fun _ => .unknown }
          inbox := p.inbox ++ [.record (p.mkRecord .bus 0 25 .occurrence 3)] }
      else p := by
  rw [State.takeRefresh, Tracker.endBurst_command, Tracker.anyOpen_eq, anomaly_eq hin]
  rfl

/-- Settles O9: each command ends the burst on its banks and gives them their state. -/
theorem closeAndRefreshCommands : Obligations.CloseAndRefreshCommands := by
  intro s b ht
  refine ⟨busCommand_eq ht _ ?_, busCommand_eq ht _ ?_, fun hin hre => ?_⟩
  · exact congrArg (State.setTracker _) (Tracker.takeClose_eq _ b)
  · rw [Tracker.endBurst_command]; rfl
  · have hp := atPosition_keepsPart s .refresh
    refine (busCommand_eq ht _ (takeRefresh_eq (hp.inbox hin))).trans (congrArg _ ?_)
    split
    · rfl
    · exact settleRestart_of_restartOk (hp.restart hre)

/-! ### MODE_LOAD -/

/-- The record of a change of tracking state, as a list of at most one. -/
theorem trackRecords_eq_map (s : State) (m : ModeImage) : ∃ rs : List Record, s.trackRecords m = rs.map .record := by
  unfold State.trackRecords
  split
  · exact ⟨[_], rfl⟩
  · split
    · exact ⟨[_], rfl⟩
    · exact ⟨[], rfl⟩

theorem hand_trackRecords {s : State} (h : s.InboxOk) (p : State) (m : ModeImage) :
    s.hand (p.trackRecords m) = { s with inbox := s.inbox ++ p.trackRecords m } := by
  obtain ⟨rs, hrs⟩ := trackRecords_eq_map p m
  rw [hrs, hand_records s rs h]

/-- A clear comes where an image with a known source follows one without (R10). -/
theorem trackRecords_of_known (s : State) {m : ModeImage} (h : m.source ≠ .unknown) :
    s.trackRecords m =
      if s.tracker.mode.source = .unknown then [.record (s.mkRecord .bus 0 24 .clear 0)] else [] := by
  by_cases hs : s.tracker.mode.source = .unknown <;>
    simp [State.trackRecords, State.tracking, ModeImage.tracking, h, hs]

/-- An onset comes where an image with an unknown source follows one with a known source (R10). -/
theorem trackRecords_of_unknown (s : State) {m : ModeImage} (h : m.source = .unknown) :
    s.trackRecords m =
      if s.tracker.mode.source = .unknown then [] else [.record (s.mkRecord .bus 0 24 .onset 0)] := by
  by_cases hs : s.tracker.mode.source = .unknown <;>
    simp [State.trackRecords, State.tracking, ModeImage.tracking, h, hs]

/-- Queue and due beats dropped, the end of the burst in flight is the end of a write burst alone. -/
theorem Tracker.endBurst_command_dropped (t : Tracker) :
    { t.endBurst .command with queue := [], due := [] } = { t with queue := [], due := [], write := none } := by
  rw [Tracker.endBurst_command]
  cases h : t.burst with
  | none =>
    obtain ⟨hw, -⟩ := Tracker.burst_eq_none.mp h
    simp [hw]
  | some x => rfl

/-- The burst length that a code of 1.4 gives. -/
theorem lengthOfCode_of_mem {x : Nat × BurstLength}
    (hx : x ∈ [(0, BurstLength.one), (1, .two), (2, .four), (3, .eight), (7, .fullRow)]) :
    lengthOfCode x.1 = some x.2 := by
  revert x; decide

/-- The image that codes give, by the length of their length code. -/
theorem codesImage_eq {c : ModeCodes} {x : Nat × BurstLength}
    (hx : x ∈ [(0, BurstLength.one), (1, .two), (2, .four), (3, .eight), (7, .fullRow)]) (hc : c.length.toNat = x.1)
    (src : ModeSource) :
    codesImage c src =
      { length := x.2, order := if c.interleaved then .interleaved else .sequential, latency := c.latency.toNat
        writeSingle := c.writeSingle, source := src } := by
  simp [codesImage, hc, lengthOfCode_of_mem hx]

theorem takeModeLoad_of_valid {p : State} (hin : p.InboxOk) {c : ModeCodes} (hc : codesValid c = true) :
    p.takeModeLoad c =
      let t := if p.tracker.burst.isSome then p.tracker.stopBurst else p.tracker
      let opened := p.tracker.anyOpen
      { p with
        tracker := { t with
          mode := codesImage c .loaded, banks := if opened then tabulate fun _ => .unknown else p.tracker.banks }
        inbox := p.inbox ++ (if opened then [.record (p.mkRecord .bus 0 25 .occurrence 4)] else [])
          ++ if p.tracker.mode.source = .unknown then [.record (p.mkRecord .bus 0 24 .clear 0)] else [] } := by
  have hsrc : (codesImage c .loaded).source ≠ .unknown := by simp [codesImage]
  simp only [State.takeModeLoad, hc, if_true, Tracker.endBurst_command, ← trackRecords_of_known p hsrc]
  rw [hand_trackRecords (anomalyIf_inboxOk hin _ _), anomalyIf_eq hin]
  cases p.tracker.anyOpen <;> cases p.tracker.burst <;> rfl

theorem takeModeLoad_of_invalid {p : State} (hin : p.InboxOk) {c : ModeCodes} (hc : codesValid c = false) :
    p.takeModeLoad c =
      let opened := p.tracker.anyOpen
      { p with
        tracker := { p.tracker with
          mode := { p.tracker.mode with source := .unknown }, queue := [], due := [], write := none
          banks := if opened then tabulate fun _ => .unknown else p.tracker.banks }
        inbox := p.inbox ++ (if opened then [.record (p.mkRecord .bus 0 25 .occurrence 4)] else [])
          ++ [.record (p.mkRecord .bus 0 25 .occurrence 7)]
          ++ if p.tracker.mode.source = .unknown then [] else [.record (p.mkRecord .bus 0 24 .onset 0)] } := by
  have hsrc : ({ p.tracker.mode with source := .unknown } : ModeImage).source = .unknown := rfl
  have hdrop (banks : Vector Bank 4) (mode : ModeImage) :=
    congrArg (fun t : Tracker => { t with banks := banks, mode := mode }) p.tracker.endBurst_command_dropped
  simp only [State.takeModeLoad, hc, Bool.false_eq_true, if_false, ← trackRecords_of_unknown p hsrc]
  rw [hand_trackRecords (anomaly_inboxOk _ _), anomaly_eq (anomalyIf_inboxOk hin _ _), anomalyIf_eq hin]
  have hbanks : (p.tracker.endBurst .command).banks = p.tracker.banks := by
    rw [Tracker.endBurst_command]; split <;> rfl
  cases p.tracker.anyOpen with
  | true => exact congrArg (fun t => ({ p with tracker := t, inbox := _ } : State)) (hdrop _ _)
  | false =>
    refine congrArg (fun t => ({ p with tracker := t, inbox := _ } : State)) (Eq.trans ?_ (hdrop p.tracker.banks _))
    simp only [← hbanks, Bool.false_eq_true, if_false]

/-- Settles O10: a MODE_LOAD of valid codes loads the image, one of invalid codes drops queue and due beats. -/
theorem modeLoadCommand : Obligations.ModeLoadCommand := by
  intro s c ht hin
  have hpin := (atPosition_keepsPart s (.modeLoad c)).inbox hin
  refine ⟨codesValid_iff c, fun x hx hlen hc => ?_, fun hc => ?_⟩
  · refine busCommand_eq ht _ ?_
    rw [takeModeLoad_of_valid hpin hc, codesImage_eq hx hlen, Tracker.anyOpen_eq]
  · refine busCommand_eq ht _ ?_
    rw [takeModeLoad_of_invalid hpin hc, Tracker.anyOpen_eq]

/-! ### SLEEP_ENTER and SLEEP_EXIT -/

theorem takeSleep_eq {p : State} (hin : p.InboxOk) :
    p.takeSleep =
      let opened := p.tracker.anyOpen
      { p with
        tracker := { p.tracker with
          queue := [], due := [], write := none, store := .asleep, beatDone := true
          banks := if opened then tabulate fun _ => .idle else p.tracker.banks }
        inbox := p.inbox ++ if opened then [.record (p.mkRecord .bus 0 25 .occurrence 5)] else []
        faces := tabulate fun f =>
          if p.monitored f && p.faces[f].scan.state == .scanning then
            { p.faces[f] with scan := { p.faces[f].scan with timer := .halted } }
          else p.faces[f] } := by
  have hdrop := congrArg (fun t : Tracker => { t with store := .asleep, beatDone := true })
    p.tracker.endBurst_command_dropped
  simp only [State.takeSleep, anomalyIf_eq hin, hdrop]
  cases p.tracker.anyOpen <;> rfl

/-- Settles O11: the store falls asleep with its burst, queue and due beats gone, and wakes at a position. -/
theorem sleepCommands : Obligations.SleepCommands := by
  intro s
  refine ⟨fun ht hin => ?_, fun hr ha => ?_⟩
  · have hb := passBegun_keepsPart s (s.takesBus && s.tracker.resumed)
    have hp := hb.trans (atPosition_keepsPart _ .sleepEnter)
    have hs : s.passBegun (s.takesBus && s.tracker.resumed) = if s.tracker.resumed then s.beginPosition else s := by
      rw [ht]; rfl
    rw [hs] at hb hp
    refine Eq.trans (by rw [← hs]; rfl) (busCommand_eq (hb.takesBus.trans ht) .sleepEnter ?_)
    rw [takeSleep_eq (hp.inbox hin), Tracker.anyOpen_eq]
  · refine congrArg _ (if_neg ?_)
    simp [hr, ha]

/-! ### SUSPEND, RESUME, NO_OPERATION and BURST_STOP -/

/-- Settles O12: the store state moves, a position passes, or the burst in flight ends. -/
theorem suspendResumeStopAndNoOperation : Obligations.SuspendResumeStopAndNoOperation := by
  intro s
  refine ⟨fun ht => ?_, fun hr hs => ?_, fun ht hre => ?_, fun ht => ?_⟩
  · exact congrArg _ (if_pos ht)
  · exact congrArg _ (if_neg (by simp [hr, hs]))
  · exact busCommand_eq_of_restartOk ht _ rfl ((atPosition_keepsPart s .none).restart hre)
  · refine busCommand_eq ht _ (congrArg (State.setTracker _) ?_)
    cases h : (s.atPosition .burstStop).tracker.burst with
    | none => exact Tracker.endBurst_of_none _ h
    | some x =>
      obtain ⟨b, auto⟩ := x
      rw [Tracker.endBurst_of_some _ h, EndedBy.closes, Bool.and_true]

/-! ### READ and WRITE -/

theorem Tracker.interrupts_iff (t : Tracker) (b : Fin 4) : t.interrupts b = true ↔ t.burst = some (b, true) := by
  unfold Tracker.interrupts
  cases t.burst with
  | none => simp
  | some x => obtain ⟨c, auto⟩ := x; simp [and_comm]

/-- The tracker after the end that an access to bank b gives the burst in flight, and the records of the access. -/
theorem access_of_inboxOk {p : State} (hin : p.InboxOk) (b : Fin 4) :
    p.access b =
      let t := p.tracker.endBurst (.access b)
      { p with
        tracker := t
        inbox := p.inbox
          ++ (if p.tracker.burst = some (b, true) then [.record (p.mkRecord .bus 0 25 .occurrence 8)] else [])
          ++ if t.banks[b] = .idle then [.record (p.mkRecord .bus 0 25 .occurrence 1)] else [] } := by
  rw [access_eq, anomalyIf_eq (by exact anomalyIf_inboxOk hin _ _), anomalyIf_eq hin]
  simp only [Tracker.interrupts_iff, beq_iff_eq]
  rfl

/-- A burst of one beat is done with its first. -/
theorem lastBeat_one (len : BurstLength) : lastBeat len 1 = decide (len = .one) := by
  cases len <;> rfl

/-- The end of a burst by an access to bank b, said of its bank. -/
theorem Tracker.endBurst_access_of_some {t : Tracker} (b : Fin 4) {b' : Fin 4} {auto : Bool}
    (h : t.burst = some (b', auto)) :
    t.endBurst (.access b) =
      { t.stopBurst with banks := if auto && b' != b then t.banks.set b' .idle else t.banks } := by
  rw [Tracker.endBurst_of_some _ h, EndedBy.closes, bne_comm]

/-- A READ that makes an entry: the entry with its first beat issued and due (R15, R16). -/
theorem issueBeat_newEntry {q : State} {t : Tracker} (hn : t.burst = none) (e : ReadEntry) (hi : e.issuing = true)
    (data : Word) (m : Mask) :
    (q.setTracker { t with queue := t.queue ++ [e] }).issueBeat data m =
      q.setTracker { t with
        queue := t.queue ++ [e.issue], due := t.due ++ [t.position + t.mode.latency], beatDone := true
        banks := if lastBeat e.length (e.issued + 1) && e.autoclose then t.banks.set e.bank .idle else t.banks } := by
  obtain ⟨hw, hni⟩ := Tracker.burst_eq_none.mp hn
  have hread : Tracker.reading { t with queue := t.queue ++ [e] } = some e := by
    simp only [Tracker.reading, List.find?_append]
    rw [List.find?_eq_none.mpr fun x hx => by simp [hni x hx]]
    simp [hi]
  rw [issueBeat_of_reading hw hread, State.setTracker_tracker, Tracker.issueRead_eq rfl hi hni]
  rfl

theorem takeReadCommand_eq {p : State} (hin : p.InboxOk) (b : Fin 4) (c : Column) (auto : Bool) :
    p.takeReadCommand b c auto =
      let t := p.tracker.endBurst (.access b)
      let single := decide (t.mode.length = .one)
      { p with
        inbox := p.inbox
          ++ (if p.tracker.burst = some (b, true) then [.record (p.mkRecord .bus 0 25 .occurrence 8)] else [])
          ++ if t.banks[b] = .idle then [.record (p.mkRecord .bus 0 25 .occurrence 1)] else []
        tracker :=
          if t.mode.source = .unknown ∨ t.banks[b] = .idle then t
          else
            { t with
              queue := t.queue ++ [{
                bank := b, row := t.banks[b].row, start := c, length := t.mode.length, order := t.mode.order
                issued := 1, returned := 0, autoclose := auto, truncated := false, issuing := !single }]
              due := t.due ++ [t.position + t.mode.latency]
              banks := if single && auto then t.banks.set b .idle else t.banks
              beatDone := true } } := by
  have hn := p.tracker.endBurst_burst (.access b)
  rw [State.takeReadCommand, access_of_inboxOk hin]
  generalize p.tracker.endBurst (.access b) = t at hn ⊢
  by_cases h : t.mode.source = .unknown ∨ t.banks[b] = .idle
  · have hc : (t.mode.tracking && t.banks[b] != .idle) = false := by
      rcases h with h | h <;> simp [ModeImage.tracking, h]
    simp only [hc, Bool.false_eq_true, if_false, if_pos h]
  · have hc : (t.mode.tracking && t.banks[b] != .idle) = true := by
      obtain ⟨h1, h2⟩ := not_or.mp h
      simp only [ModeImage.tracking, Bool.and_eq_true, bne_iff_ne]
      exact ⟨h1, h2⟩
    simp only [hc, if_true, if_neg h]
    rw [issueBeat_newEntry hn _ rfl]
    simp only [ReadEntry.issue, Nat.zero_add, lastBeat_one]
    rfl

/-- Settles O14: a READ ends the burst in flight and, where it makes an entry, issues its first beat. -/
theorem readCommand : Obligations.ReadCommand := by
  intro s b c auto ht hin
  have hpin := (atPosition_keepsPart s (.read b c auto)).inbox hin
  extract_lets p _ t q single
  have hend : p.tracker.endBurst (.access b) = t := by
    cases h : p.tracker.burst with
    | none => simp only [t, h]; exact Tracker.endBurst_of_none _ h
    | some x => simp only [t, h]; exact Tracker.endBurst_access_of_some b h
  clear_value t
  subst hend
  exact busCommand_eq ht _ (takeReadCommand_eq hpin b c auto)

/-- A WRITE of one beat is done with its first: only while TRACKING (R11, R19). -/
theorem writeShape_single (m : ModeImage) :
    (m.tracking && lastBeat m.writeShape.1 1) =
      (decide (m.source ≠ .unknown) && (m.writeSingle || m.length == .one)) := by
  obtain ⟨len, order, lat, single, src⟩ := m
  cases src <;> cases single <;> cases len <;> rfl

/-- The length and order of a WRITE of more than one beat (R11, R19). -/
theorem writeShape_of_not_single {m : ModeImage}
    (h : (decide (m.source ≠ .unknown) && (m.writeSingle || m.length == .one)) = false) :
    m.writeShape =
      (if decide (m.source ≠ .unknown) then m.length else .fullRow,
        if decide (m.source ≠ .unknown) then m.order else .sequential) := by
  obtain ⟨len, order, lat, single, src⟩ := m
  cases src <;> cases single <;> simp_all [ModeImage.writeShape, ModeImage.tracking]

theorem takeWriteCommand_eq {p : State} (hin : p.InboxOk) (b : Fin 4) (c : Column) (auto : Bool) (data : Word)
    (m : Mask) :
    p.takeWriteCommand b c auto data m =
      let t := p.tracker.endBurst (.access b)
      let known := decide (t.mode.source ≠ .unknown)
      let single := known && (t.mode.writeSingle || t.mode.length == .one)
      let q : State := { p with
        inbox := p.inbox
          ++ (if p.tracker.burst = some (b, true) then [.record (p.mkRecord .bus 0 25 .occurrence 8)] else [])
          ++ (if t.banks[b] = .idle then [.record (p.mkRecord .bus 0 25 .occurrence 1)] else [])
        tracker := { t with
          write :=
            if single then none
            else some {
              bank := b, row := t.banks[b].row, start := c, length := if known then t.mode.length else .fullRow
              order := if known then t.mode.order else .sequential, issued := 1, autoclose := auto
              lengthKnown := known }
          banks := if single && auto then t.banks.set b .idle else t.banks
          beatDone := true } }
      q.takeWrite (q.classify (t.banks[b].row.map fun r => wordAddress p.strapImage.map b r c.toNat)) data m := by
  rw [State.takeWriteCommand, access_of_inboxOk hin]
  generalize p.tracker.endBurst (.access b) = t
  simp only []
  rw [issueBeat_of_write rfl, State.setTracker_tracker, Tracker.issueWrite_eq, State.writeBeat]
  have hknown : t.mode.tracking = decide (t.mode.source ≠ .unknown) := by
    simp [ModeImage.tracking, bne, Bool.beq_eq_decide_eq]
  simp only [WriteBurst.address, WriteBurst.nextColumn, burstColumn_zero, Nat.zero_add, beq_self_eq_true,
    Bool.or_true, if_true, hknown]
  have hdone := writeShape_single t.mode
  rw [hknown] at hdone
  simp only [hdone]
  cases hs : (decide (t.mode.source ≠ .unknown) && (t.mode.writeSingle || t.mode.length == .one)) with
  | true => rfl
  | false => simp only [writeShape_of_not_single hs]; rfl

/-- Settles O15: a WRITE ends the burst in flight and hands over its first beat at its own column. -/
theorem writeCommand : Obligations.WriteCommand := by
  intro s b c auto data m ht hin
  have hp := atPosition_keepsPart (s.driveStore data m) (.write b c auto)
  extract_lets _ p _ t known single q
  have hend : p.tracker.endBurst (.access b) = t := by
    cases h : p.tracker.burst with
    | none => simp only [t, h]; exact Tracker.endBurst_of_none _ h
    | some x => simp only [t, h]; exact Tracker.endBurst_access_of_some b h
  clear_value t
  subst hend
  have hmap : s.strapImage.map = p.strapImage.map := congrArg Straps.map hp.strapImage.symm
  rw [hmap]
  exact busCommand_eq (s := s.driveStore data m) ht _ (takeWriteCommand_eq (hp.inbox hin) b c auto data m)

end Sys2Proof.Machine
end

section
/-! SUPPORT. The statements about burst beats and read data (R11, R13, R16, R18, R19). -/

namespace Sys2Proof.Machine

/-! ### The lines of the bus decide nothing of a position -/

theorem issueBeat_setBus (s : State) (data : Word) (m : Mask) (b : BusOut) :
    ({ s with bus := b } : State).issueBeat data m = { s.issueBeat data m with bus := b } := by
  rcases s.tracker.burst_cases with ⟨w, hw⟩ | ⟨e, hw, he⟩ | hn
  · rw [issueBeat_of_write hw, issueBeat_of_write (s := { s with bus := b }) hw]
    exact takeWrite_setBus (s.setTracker (s.tracker.issueWrite w)) _ data m b
  · rw [issueBeat_of_reading hw he, issueBeat_of_reading (s := { s with bus := b }) hw he]
    rfl
  · rw [issueBeat_of_no_burst hn, issueBeat_of_no_burst (s := { s with bus := b }) hn]

theorem issueBeat_bus (s : State) (data : Word) (m : Mask) : (s.issueBeat data m).bus = s.bus := by
  have h := issueBeat_setBus s data m s.bus
  exact congrArg (·.bus) h

theorem beginPosition_setBus (s : State) (b : BusOut) :
    ({ s with bus := b } : State).beginPosition = { s.beginPosition with bus := b } := by
  have hf : ({ s with bus := b } : State).finishPosition = { s.finishPosition with bus := b } :=
    ite_setBus rfl (issueBeat_setBus s _ _ b)
  rw [beginPosition_eq, beginPosition_eq, hf]
  exact ite_setBus (settleRestart_setBus (State.setTracker s.finishPosition _) b) rfl

theorem beginPosition_bus (s : State) : s.beginPosition.bus = s.bus := by
  have h := beginPosition_setBus s s.bus
  exact congrArg (·.bus) h

/-- The word of a write beat passes toward the store before a position or behind it. -/
theorem beginPosition_driveStore (s : State) (data : Word) (m : Mask) :
    (s.driveStore data m).beginPosition = s.beginPosition.driveStore data m := by
  rw [State.driveStore, State.driveStore, beginPosition_setBus, beginPosition_bus]

/-! ### A burst across a position -/

/-- An entry but for the beats it has had returned. -/
def ReadEntry.unreturned (e : ReadEntry) : ReadEntry := { e with returned := 0 }

/-- The burst in flight is the same but for the beats returned to it. -/
structure SameBurst (t u : Tracker) : Prop where
  write : u.write = t.write
  reading : u.reading.map ReadEntry.unreturned = t.reading.map ReadEntry.unreturned

theorem SameBurst.burst {t u : Tracker} (h : SameBurst t u) : u.burst = t.burst := by
  have hr := congrArg (Option.map fun e => (e.bank, e.autoclose)) h.reading
  rw [Option.map_map, Option.map_map] at hr
  unfold Tracker.burst
  rw [h.write]
  cases t.write with
  | none => exact hr
  | some w => rfl

/-- One beat is left to the burst in flight, said of a read burst without a match. -/
theorem Tracker.oneLeft_of_no_write {t : Tracker} (h : t.write = none) :
    t.oneLeft = t.reading.any fun e => lastBeat e.length (e.issued + 1) := by
  unfold Tracker.oneLeft
  rw [h]
  cases t.reading <;> rfl

theorem Tracker.oneLeft_of_write {t : Tracker} {w : WriteBurst} (h : t.write = some w) :
    t.oneLeft = (w.lengthKnown && lastBeat w.length (w.issued + 1)) := by
  unfold Tracker.oneLeft
  rw [h]

theorem SameBurst.oneLeft {t u : Tracker} (h : SameBurst t u) : u.oneLeft = t.oneLeft := by
  cases hw : t.write with
  | some w => rw [Tracker.oneLeft_of_write hw, Tracker.oneLeft_of_write (h.write.trans hw)]
  | none =>
    have hr := congrArg (Option.any fun e => lastBeat e.length (e.issued + 1)) h.reading
    rw [Option.any_map, Option.any_map] at hr
    rw [Tracker.oneLeft_of_no_write hw, Tracker.oneLeft_of_no_write (h.write.trans hw)]
    exact hr

/-- A return leaves the entry that issues, but for a beat returned to it. -/
theorem find_issuing_returnBeat (q : List ReadEntry) :
    ((returnBeat q).find? (·.issuing)).map ReadEntry.unreturned = (q.find? (·.issuing)).map ReadEntry.unreturned := by
  induction q with
  | nil => rfl
  | cons e q ih =>
    by_cases h : e.returned < e.issued
    · rw [returnBeat, if_pos h]
      cases hi : e.issuing <;> simp [hi, ReadEntry.unreturned]
    · rw [returnBeat, if_neg h]
      cases hi : e.issuing <;> simp [hi, ih]

/-- An entry that issues stays in the queue. -/
theorem find_issuing_staying (q : List ReadEntry) : (staying q).find? (·.issuing) = q.find? (·.issuing) := by
  rw [staying, List.find?_filter]
  congr 1
  funext e
  cases h : e.issuing <;> simp [ReadEntry.stays, h]

theorem Tracker.returned_sameBurst (t : Tracker) : SameBurst t t.returned where
  write := rfl
  reading := by
    change ((staying (returnBeat t.queue)).find? (·.issuing)).map _ = _
    rw [find_issuing_staying, find_issuing_returnBeat]
    rfl

theorem beginPosition_sameBurst {s : State} (h : s.tracker.Finished) : SameBurst s.tracker s.beginPosition.tracker := by
  have hf := finishPosition_of_finished h
  cases hd : s.finishPosition.tracker.dueAt (s.finishPosition.tracker.position + 1) with
  | false =>
    rw [beginPosition_of_not_due hd, hf]
    exact ⟨rfl, rfl⟩
  | true =>
    rw [beginPosition_of_due hd, hf, settleRestart_tracker]
    have hr := s.tracker.returned_sameBurst
    exact ⟨hr.write, hr.reading⟩

/-! ### Burst beats -/

theorem exec_burstBeatIssue {s : State} (ht : s.takesBus = true) (hb : s.tracker.burst ≠ none) (data : Word)
    (m : Mask) :
    exec (.burstBeatIssue data m) s = .next ((s.driveIfWrite data m).burstBeat data m) := by
  obtain ⟨hr, -⟩ := (takesBus_iff s).mp ht
  simp [exec, execBurstBeatIssue, hr, ht, Option.isSome_iff_ne_none.mpr hb]

theorem exec_burstBeatIssue_of_no_burst {s : State} (ht : s.takesBus = true) (hb : s.tracker.burst = none) (data : Word)
    (m : Mask) : exec (.burstBeatIssue data m) s = .next s := by
  obtain ⟨hr, -⟩ := (takesBus_iff s).mp ht
  simp [exec, execBurstBeatIssue, hr, hb]

theorem exec_burstComplete {s : State} (ht : s.takesBus = true) (data : Word) (m : Mask) :
    exec (.burstComplete data m) s =
      .next (if s.tracker.oneLeft then (s.driveIfWrite data m).burstBeat data m else s) := by
  obtain ⟨hr, -⟩ := (takesBus_iff s).mp ht
  simp [exec, execBurstComplete, hr, ht]

theorem driveIfWrite_of_write {s : State} {w : WriteBurst} (h : s.tracker.write = some w) (data : Word) (m : Mask) :
    s.driveIfWrite data m = s.driveStore data m := by
  simp [State.driveIfWrite, h]

theorem driveIfWrite_of_no_write {s : State} (ht : s.takesBus = true) (h : s.tracker.write = none) (data : Word)
    (m : Mask) : s.driveIfWrite data m = s := by
  obtain ⟨hr, -⟩ := (takesBus_iff s).mp ht
  simp [State.driveIfWrite, h, hr]

/-- Whatever the burst, the word that passes is a line of the bus alone. -/
theorem driveIfWrite_eq_setBus (s : State) (data : Word) (m : Mask) :
    ∃ b, s.driveIfWrite data m = { s with bus := b } := by
  unfold State.driveIfWrite
  split
  · exact ⟨_, rfl⟩
  · exact ⟨s.bus, rfl⟩

theorem burstBeat_of_not_done {s : State} (h : s.tracker.beatDone = false) (data : Word) (m : Mask) :
    s.burstBeat data m = s.issueBeat data m := by simp [State.burstBeat, h]

theorem burstBeat_of_done {s : State} (h : s.tracker.beatDone = true) (data : Word) (m : Mask) :
    s.burstBeat data m = s.beginPosition.issueBeat data m := by simp [State.burstBeat, h]

/-- The last beat of a burst leaves none in flight, and the bank of an autoclose burst IDLE (R11, R13). -/
theorem issueBeat_last {u : State} (hok : u.tracker.Ok) {x : Fin 4 × Bool} (hx : u.tracker.burst = some x)
    (h1 : u.tracker.oneLeft = true) (data : Word) (m : Mask) :
    (u.issueBeat data m).tracker.burst = none ∧ (x.2 = true → (u.issueBeat data m).tracker.banks[x.1] = .idle) := by
  obtain ⟨-, -, -, hlast, hwr, -⟩ := hok
  rcases u.tracker.burst_cases with ⟨w, hw⟩ | ⟨e, hw, he⟩ | hn
  · obtain rfl : (w.bank, w.autoclose) = x := by rw [Tracker.burst_of_write hw] at hx; injection hx
    rw [Tracker.oneLeft_of_write hw] at h1
    rw [issueBeat_of_write hw, State.writeBeat]
    obtain ⟨hbanks, hq, -, hwrite, -⟩ := (takeWrite_keepsTracker (u.setTracker (u.tracker.issueWrite w))
      ((u.setTracker (u.tracker.issueWrite w)).classify (w.address u.strapImage.map)) data m).fields
    rw [Tracker.burst_eq_none, hbanks, hq, hwrite, State.setTracker_tracker, Tracker.issueWrite_eq]
    simp only [h1, if_true, Bool.true_and]
    exact ⟨⟨trivial, hwr (by simp [hw])⟩, fun ha => by simp [ha]⟩
  · obtain rfl : (e.bank, e.autoclose) = x := by rw [Tracker.burst_of_reading hw he] at hx; injection hx
    have hdone : lastBeat e.length (e.issued + 1) = true := by
      simpa [Tracker.oneLeft_of_no_write hw, he] using h1
    obtain ⟨front, hq, hi, hf⟩ := Tracker.reading_last hlast he
    rw [issueBeat_of_reading hw he, State.setTracker_tracker, Tracker.issueRead_eq hq hi hf, Tracker.burst_eq_none]
    refine ⟨⟨hw, fun y hy => ?_⟩, fun ha => by simp only [] at ha; simp [hdone, ha]⟩
    rcases List.mem_append.mp hy with hy | hy
    · exact hf y hy
    · obtain rfl := List.mem_singleton.mp hy
      simp [ReadEntry.issue, hdone]
  · simp [hn] at hx

/-- The position at which a burst beat is issued: the current one, or the next where it has its beat. -/
theorem burstBeat_last {s : State} (hok : s.tracker.Ok) {x : Fin 4 × Bool} (hx : s.tracker.burst = some x)
    (h1 : s.tracker.oneLeft = true) (data : Word) (m : Mask) :
    (s.burstBeat data m).tracker.burst = none ∧ (x.2 = true → (s.burstBeat data m).tracker.banks[x.1] = .idle) := by
  cases hb : s.tracker.beatDone with
  | false =>
    rw [burstBeat_of_not_done hb]
    exact issueBeat_last hok hx h1 data m
  | true =>
    rw [burstBeat_of_done hb]
    have hs := beginPosition_sameBurst (.inl hb : s.tracker.Finished)
    exact issueBeat_last (beginPosition_ok hok) (hs.burst.trans hx) (hs.oneLeft.trans h1) data m

/-- Past a position's own beat, a burst beat is issued at the next one. -/
theorem exec_burstBeatIssue_of_done {s : State} (ht : s.takesBus = true) (hd : s.tracker.beatDone = true)
    (hb : s.tracker.burst ≠ none) (data : Word) (m : Mask) :
    exec (.burstBeatIssue data m) s = exec (.burstBeatIssue data m) s.beginPosition := by
  have hs := beginPosition_sameBurst (.inl hd : s.tracker.Finished)
  have ht' : s.beginPosition.takesBus = true := (beginPosition_keepsPart s).takesBus.trans ht
  have hb' : s.beginPosition.tracker.burst ≠ none := by rwa [hs.burst]
  have hnew := (beginPosition_marks s).1
  rw [exec_burstBeatIssue ht hb, exec_burstBeatIssue ht' hb']
  cases hw : s.tracker.write with
  | some w =>
    rw [driveIfWrite_of_write hw, driveIfWrite_of_write (hs.write.trans hw),
      burstBeat_of_done (s := s.driveStore data m) hd,
      burstBeat_of_not_done (s := s.beginPosition.driveStore data m) hnew, beginPosition_driveStore]
  | none =>
    rw [driveIfWrite_of_no_write ht hw, driveIfWrite_of_no_write ht' (hs.write.trans hw), burstBeat_of_done hd,
      burstBeat_of_not_done hnew]

/-- Settles O16: the issue of a read or a write beat, and the end that the last one gives its burst. -/
theorem burstBeats : Obligations.BurstBeats := by
  intro s data m last oneLeft ht
  have hlast : lastBeat = last := by
    funext len n; cases len <;> rfl
  clear_value last
  subst hlast
  have hone : s.tracker.oneLeft = oneLeft := by
    cases hw : s.tracker.write with
    | some w => simp only [oneLeft, hw]; exact Tracker.oneLeft_of_write hw
    | none => simp only [oneLeft, hw]; exact Tracker.oneLeft_of_no_write hw
  clear_value oneLeft
  subst hone
  refine ⟨fun e he hw hb => ?_, fun w hw hb => ?_, fun x hx hok h1 => ?_, fun hd hb => ?_, fun hb => ?_, fun h1 => ?_,
    fun hd hb => ?_, fun hf => finishPosition_of_finished hf⟩
  · have hburst : s.tracker.burst ≠ none := by rw [Tracker.burst_of_reading hw he]; exact Option.some_ne_none _
    rw [exec_burstBeatIssue ht hburst, driveIfWrite_of_no_write ht hw, burstBeat_of_not_done hb,
      issueBeat_of_reading hw he, Tracker.issueRead_eq_map]
    rfl
  · have hburst : s.tracker.burst ≠ none := by rw [Tracker.burst_of_write hw]; exact Option.some_ne_none _
    rw [exec_burstBeatIssue ht hburst, driveIfWrite_of_write hw, burstBeat_of_not_done (s := s.driveStore data m) hb,
      issueBeat_of_write (s := s.driveStore data m) hw, Tracker.issueWrite_eq]
    rfl
  · have hburst : s.tracker.burst ≠ none := by rw [hx]; exact Option.some_ne_none _
    obtain ⟨b, hdrive⟩ := driveIfWrite_eq_setBus s data m
    refine ⟨(s.driveIfWrite data m).burstBeat data m, ?_, exec_burstBeatIssue ht hburst data m, ?_⟩
    · rw [exec_burstComplete ht, if_pos h1]
    · rw [hdrive]
      exact burstBeat_last (s := { s with bus := b }) hok hx h1 data m
  · exact exec_burstBeatIssue_of_done ht hd hb data m
  · exact exec_burstBeatIssue_of_no_burst ht hb data m
  · rw [exec_burstComplete ht, h1]; rfl
  · obtain ⟨b, hdrive⟩ := driveIfWrite_eq_setBus s 0#32 0xF#4
    refine ⟨_, exec_burstBeatIssue ht hb _ _, ?_⟩
    rw [hdrive, burstBeat_of_not_done (s := { s with bus := b }) hd, issueBeat_setBus, finishPosition_of_not_done hd]
    have hbus := issueBeat_bus s 0#32 0xF#4
    rw [← hbus]

/-! ### Read data -/

/-- The class of a word follows from the straps and the region table. -/
theorem classify_congr {s t : State} (h1 : t.straps = s.straps) (h2 : t.regions = s.regions) (w : Option Nat) :
    t.classify w = s.classify w := by
  have hin : ∀ (w : Nat) (fs : List (Fin 8)), t.inFaces w fs = s.inFaces w fs := by
    intro w fs
    induction fs with
    | nil => rfl
    | cons f fs ih => simp only [State.inFaces, h2, ih]
  have hcfg : t.isConfigured = s.isConfigured := by simp only [State.isConfigured, State.configured, h2]
  have hstrap : t.strapImage = s.strapImage := by simp only [State.strapImage, h1]
  cases w with
  | none => rfl
  | some w => simp only [State.classify, hin, hcfg, hstrap]

theorem delivered_iff (m : Mask) (cd : Bool) : delivered m cd = true ↔ m = 0#4 ∧ cd = false := by
  simp [delivered, whole]

theorem exec_readBeatReturn {s : State} (ht : s.takesBus = true) (data : Word) (m : Mask) (cd : Bool) :
    exec (.readBeatReturn data m cd) s = .next (s.untilDue.takeReturn data m cd) := by
  obtain ⟨hr, -⟩ := (takesBus_iff s).mp ht
  simp [exec, execReadBeatReturn, hr, ht]

theorem exec_unplacedArrival {s : State} (ht : s.takesBus = true) (data : Word) (m : Mask) (cd : Bool) :
    exec (.unplacedArrival data m cd) s = .next ((s.passBegun s.tracker.arrived).takeUnplaced data m cd) := by
  obtain ⟨hr, -⟩ := (takesBus_iff s).mp ht
  simp [exec, execUnplacedArrival, hr, ht]

/-- The finish of a position before n pass makes no difference, where the last of them is finished. -/
theorem passPositions_finishPosition (s : State) (n : Nat) :
    (s.finishPosition.passPositions n).finishPosition = (s.passPositions n).finishPosition := by
  cases n with
  | zero => exact finishPosition_finishPosition s
  | succ n => simp only [State.passPositions, beginPosition_finishPosition]

/-- Positions pass before the oldest outstanding beat is due: it stays the oldest. -/
theorem passPositions_before_due (n : Nat) {s : State} {d : Nat} (hd : s.tracker.due.head? = some d)
    (hn : s.tracker.position + n < d) :
    (s.passPositions n).tracker.due.head? = some d ∧ (s.passPositions n).tracker.position = s.tracker.position + n := by
  induction n generalizing s with
  | zero => exact ⟨hd, rfl⟩
  | succ n ih =>
    obtain ⟨hpos, ds, hdue⟩ := finishPosition_tracker s
    have hhead : s.finishPosition.tracker.due.head? = some d := by
      rw [hdue, List.head?_append, hd]; rfl
    have hnot : s.finishPosition.tracker.dueAt (s.finishPosition.tracker.position + 1) = false :=
      dueAt_of_not_due fun x hx => by
        rw [hhead, Option.mem_some_iff] at hx
        omega
    have hbegin := beginPosition_of_not_due hnot
    have hpos' : s.beginPosition.tracker.position = s.tracker.position + 1 := by
      rw [hbegin, ← hpos]; rfl
    obtain ⟨h1, h2⟩ := ih (s := s.beginPosition) (by rw [hbegin]; exact hhead) (by omega)
    exact ⟨h1, by simp only [State.passPositions]; omega⟩

/-- At the position before the one at which the oldest beat is due, no position passes. -/
theorem untilDue_of_head {s : State} {d : Nat} (hd : s.tracker.due.head? = some d) :
    s.untilDue = (s.passPositions (d - (s.tracker.position + 1))).finishPosition := by
  obtain ⟨ds, hds⟩ := List.head?_eq_some_iff.mp hd
  exact untilDue_cons hds

theorem untilDue_finishPosition {s : State} {d : Nat} (hd : s.tracker.due.head? = some d) :
    s.finishPosition.untilDue = s.untilDue := by
  obtain ⟨hpos, ds, hdue⟩ := finishPosition_tracker s
  have hhead : s.finishPosition.tracker.due.head? = some d := by
    rw [hdue, List.head?_append, hd]; rfl
  rw [untilDue_of_head hhead, untilDue_of_head hd, hpos, passPositions_finishPosition]

theorem untilDue_passPositions {s : State} {d : Nat} (hd : s.tracker.due.head? = some d)
    (hn : s.tracker.position + 1 < d) :
    (s.passPositions (d - (s.tracker.position + 1))).untilDue = s.untilDue := by
  obtain ⟨hhead, hpos⟩ := passPositions_before_due (d - (s.tracker.position + 1)) hd (by omega)
  have h0 : d - (s.tracker.position + (d - (s.tracker.position + 1)) + 1) = 0 := by omega
  rw [untilDue_of_head hhead, untilDue_of_head hd, hpos, h0]
  rfl

/-- A beat that is due, with no burst beat left to issue before it, returns at once. -/
theorem untilDue_of_due {s : State} (hf : s.tracker.Finished) {d : Nat} {ds : List Nat} (hd : s.tracker.due = d :: ds)
    (hle : d ≤ s.tracker.position + 1) : s.untilDue = s := by
  rw [untilDue_cons hd, Nat.sub_eq_zero_of_le hle]
  exact finishPosition_of_finished hf

/-- The return of a due beat: its entry, and what becomes of its word (R16, R18, R20). -/
theorem takeReturn_of_due {s : State} {e : ReadEntry} (hr : returning s.tracker.queue = some e)
    (hd : s.tracker.dueAt (s.tracker.position + 1) = true) (data : Word) (m : Mask) (cd : Bool) :
    s.takeReturn data m cd =
      if delivered m cd then
        (s.setTracker s.tracker.returned).noteArrival.returnDelivered (e.address s.strapImage.map) data
      else ((s.setTracker s.tracker.returned).noteArrival.deliver data).settleRestart := by
  simp only [State.takeReturn, hr, hd, Bool.not_true, Bool.false_eq_true, if_false]

theorem takeReturn_of_none_due {s : State} (hd : s.tracker.dueAt (s.tracker.position + 1) = false) (data : Word)
    (m : Mask) (cd : Bool) : s.takeReturn data m cd = s := by
  unfold State.takeReturn
  split
  · rfl
  · simp [hd]

/-- A delivered beat where no restart falls together with it. -/
theorem returnDelivered_of_no_restart {s : State} (h : s.report.restartPending = false ∨ s.tracker.queue ≠ [])
    (w : Option Nat) (data : Word) : s.returnDelivered w data = s.readBeat w data := by
  have hc : (s.report.restartPending && s.tracker.queue.isEmpty) = false := by
    rcases h with h | h <;> simp [h]
  simp [State.returnDelivered, hc]

/-- A delivered beat and a restart that its return lets take effect, in either order (log 10). -/
theorem returnDelivered_of_restart {s : State} (hp : s.report.restartPending = true) (hq : s.tracker.queue = [])
    (w : Option Nat) (data : Word) :
    s.returnDelivered w data = { (s.takeRead (s.classify w) data).settleRestart with choices := s.choices + 1 } ∨
      s.returnDelivered w data = { s.settleRestart.takeRead (s.classify w) data with choices := s.choices + 1 } := by
  have hcls : s.settleRestart.classify w = s.classify w :=
    classify_congr (settleRestart_straps s) (settleRestart_regions s) w
  simp only [State.returnDelivered, hp, hq, List.isEmpty_nil, Bool.and_self, if_true, State.readBeat, hcls]
  cases Config.restartBeforeBeat s.choices with
  | true => exact .inr rfl
  | false => exact .inl rfl

/-- Read data where no beat is due reach no entry: scaled by the fallback factor, or unchanged (R18, R109). -/
theorem takeUnplaced_of_not_due {s : State} (hd : s.tracker.dueAt (s.tracker.position + 1) = false) (data : Word)
    (m : Mask) (cd : Bool) :
    s.takeUnplaced data m cd =
      s.finishPosition.noteArrival.deliver
        (if m = 0#4 ∧ cd = false then scaleWord s.fallbackFactor data else data) := by
  simp only [State.takeUnplaced, hd, Bool.false_eq_true, if_false, delivered_iff]
  split
  · rw [← (finishPosition_keepsPart s).fallbackFactor]; rfl
  · rfl

/-- Settles O17: the positions up to the due one pass, the due beat returns, and data with no beat due reach no
entry. -/
theorem readDataArrivals : Obligations.ReadDataArrivals := by
  intro s e d ds data m cd ht
  have hexec := exec_readBeatReturn ht data m cd
  refine ⟨fun hf hd hle hr => ?_, fun hd => ?_, fun hd => ?_, fun hd hlt => ?_, fun ha hd => ?_, fun ha hd => ?_,
    fun ha => ?_⟩
  · have hdue : s.tracker.dueAt (s.tracker.position + 1) = true :=
      dueAt_of_due ⟨d, by simp [hd], hle⟩
    rw [hexec, untilDue_of_due hf hd hle, takeReturn_of_due hr hdue]
    obtain rfl : s.tracker.due.tail = ds := by rw [hd]; rfl
    intro q cls
    have hq : (s.setTracker s.tracker.returned).noteArrival = q := rfl
    have hcls : q.classify (e.address s.strapImage.map) = cls := classify_congr rfl rfl _
    rw [hq, ← hcls]
    refine ⟨fun hm => ?_, fun hm hc hnr => ?_, fun hm hc hp hempty => ?_⟩
    · have hnot : ¬ delivered m cd = true := fun h => by
        obtain ⟨h1, h2⟩ := (delivered_iff m cd).mp h
        rcases hm with hm | hm
        · exact hm h1
        · simp [h2] at hm
      rw [if_neg hnot]
      rfl
    · rw [if_pos ((delivered_iff m cd).mpr ⟨hm, hc⟩), returnDelivered_of_no_restart hnr]
      rfl
    · rw [if_pos ((delivered_iff m cd).mpr ⟨hm, hc⟩)]
      exact (returnDelivered_of_restart (s := q) hp hempty _ data).imp (congrArg _) (congrArg _)
  · rw [hexec, exec_readBeatReturn ((finishPosition_keepsPart s).takesBus.trans ht),
      untilDue_finishPosition (d := d) (by simp [hd])]
  · rw [hexec, untilDue_nil hd, takeReturn_of_none_due (dueAt_of_not_due (by simp [hd]))]
  · rw [hexec, exec_readBeatReturn ((passPositions_keepsPart s _).takesBus.trans ht),
      untilDue_passPositions (by simp [hd]) hlt]
  · rw [exec_unplacedArrival ht, ha]
    exact congrArg _ (takeUnplaced_of_not_due (dueAt_of_not_due hd) data m cd)
  · rw [exec_unplacedArrival ht, ha]
    exact congrArg _ (if_pos (dueAt_of_due hd))
  · rw [exec_unplacedArrival ht, exec_unplacedArrival ((beginPosition_keepsPart s).takesBus.trans ht), ha,
      (beginPosition_marks s).2.2]
    rfl

end Sys2Proof.Machine
end

section
/-! SUPPORT. The statements about reset, about commands outside a position, and about the time word and the mode
declaration (R1, R2, R9, R10, R22, R40, R41, R68, R110). -/

namespace Sys2Proof.Machine

/-! ### The reset values -/

theorem held_busAtReset (p : Option Straps) (bus : BusOut) (n : Nat) (cs : List Instr) :
    (State.held p bus n cs).BusAtReset := by
  have hf : ∀ f : Fin 8, (State.held p bus n cs).configured f = false := fun f =>
    congrArg Region.configured (tabulate_get (fun _ => Region.reset) f)
  refine ⟨fun b => tabulate_get _ b, rfl, rfl, rfl, rfl, rfl, rfl, hf, ?_⟩
  simp [State.isConfigured, hf]

theorem reset_policyAtReset : Policy.reset.AtReset :=
  ⟨rfl, by simp [Policy.locked, Policy.inFlight, Policy.reset], rfl, rfl, rfl, rfl, rfl⟩

theorem reset_reportAtReset : Report.reset.AtReset := by
  refine ⟨fun k => ?_, rfl, rfl, rfl, rfl, rfl⟩
  have hk : Report.reset.slots[k] = Slot.reset := tabulate_get _ k
  rw [hk]
  exact ⟨rfl, rfl, rfl, rfl, rfl⟩

/-- Every table of a block is filled with the reset value of one entry. -/
theorem held_entries (p : Option Straps) (bus : BusOut) (n : Nat) (cs : List Instr) :
    (∀ ch : Fin 4, (State.held p bus n cs).light.channels[ch] = Channel.reset) ∧
      (∀ f : Fin 8, (State.held p bus n cs).faces[f] = FaceState.reset) ∧
      ∀ f : Fin 8, ∀ i : Fin 32, (State.held p bus n cs).tiles.entries[f][i] = TileEntry.reset := by
  refine ⟨fun ch => tabulate_get _ ch, fun f => tabulate_get _ f, fun f i => ?_⟩
  have hrow : (State.held p bus n cs).tiles.entries[f] = tabulate fun _ => TileEntry.reset := tabulate_get _ f
  rw [hrow, tabulate_get]

/-- While held, every block stands at its reset values. -/
theorem held_atReset (p : Option Straps) (bus : BusOut) (n : Nat) (cs : List Instr) :
    (State.held p bus n cs).AtReset := by
  obtain ⟨hch, hface, htile⟩ := held_entries p bus n cs
  refine ⟨held_busAtReset p bus n cs, reset_policyAtReset, ⟨rfl, rfl, rfl, rfl, rfl⟩, ⟨fun ch => ?_, rfl⟩, fun f => ?_,
    ⟨fun f i => ?_, rfl, rfl⟩, rfl, reset_reportAtReset⟩
  · rw [hch]; decide
  · rw [hface]; decide
  · rw [htile]; decide

/-- Held, the part is LOST, so FAULT is asserted (R155). -/
theorem held_faultLine (p : Option Straps) (bus : BusOut) (n : Nat) (cs : List Instr) :
    (State.held p bus n cs).faultLine = true := by
  have ht : (State.held p bus n cs).tracking = false := rfl
  simp [State.faultLine, ht]

/-- Settles O4: each reset command gives the held state, with the strap image of its kind. -/
theorem resetCommandsGiveTheResetValues : Obligations.ResetCommandsGiveTheResetValues := by
  intro s p
  refine ⟨⟨_, rfl, held_atReset _ _ _ _, rfl, rfl, held_faultLine _ _ _ _⟩,
    ⟨_, rfl, held_atReset _ _ _ _, rfl, rfl, held_faultLine _ _ _ _⟩, fun hr => ?_, fun hr => ?_⟩
  · exact ⟨{ State.held (some p) s.bus s.choices s.pending with inReset := false }, congrArg _ (if_pos hr),
      held_atReset (some p) s.bus s.choices s.pending, rfl, rfl, held_faultLine (some p) s.bus s.choices s.pending⟩
  · exact congrArg _ (if_neg (by simp [hr]))

theorem reset_policyOk : State.reset.PolicyOk := by
  refine ⟨fun p hp => (nomatch hp), fun _ => ⟨rfl, rfl⟩, fun f => ?_⟩
  have henabled : (State.reset.policy.active.face f).enabled = false := by
    simp [State.reset, State.held, Policy.reset, Tables.face, defaultTables]
  refine ⟨?_, fun h => ?_⟩
  · rw [henabled]
    exact congrArg Region.configured (tabulate_get (fun _ => Region.reset) f)
  · rw [henabled] at h
    simp at h

theorem reset_reportOk : State.reset.report.Ok := by
  have hslot : ∀ k : Fin 32, State.reset.report.slots[k] = Slot.reset := fun k => tabulate_get _ k
  refine ⟨by decide, fun _ => rfl, by decide, fun k => ?_, fun k => ?_, fun k hk => (nomatch hk)⟩
  · rw [hslot]; decide
  · rw [hslot]
    exact ⟨fun h => (nomatch h), fun h => (nomatch h)⟩

/-- Settles O7: nothing is outstanding or waits, and every entry of every block is a reset entry. -/
theorem resetStateMeetsTheInvariants : Obligations.ResetStateMeetsTheInvariants := by
  obtain ⟨hch, hface, htile⟩ := held_entries none { command := .none, toStore := none, toController := none } 0 []
  have hcfg : ∀ f : Fin 8, State.reset.configured f = false := fun f =>
    congrArg Region.configured (tabulate_get (fun _ => Region.reset) f)
  refine ⟨by simp [State.InboxOk, State.reset, State.held],
    by simp [State.RestartOk, State.reset, State.held, Report.reset],
    Tracker.ok_of_empty (.inl rfl) rfl rfl, reset_policyOk, by decide, ⟨by decide, fun ch => ?_⟩,
    ⟨by decide, by decide, fun f i => ⟨?_, fun _ => htile f i⟩⟩, fun f => ⟨?_, ?_, fun _ => ?_, fun _ => ?_⟩,
    reset_reportOk, fun _ => rfl, held_atReset _ _ _ _⟩
  · exact (hch ch).symm ▸ (by decide : Channel.reset.Ok)
  · exact (htile f i).symm ▸ (by decide : TileEntry.reset.Ok)
  · exact (hface f).symm ▸ (by decide : FaceState.reset.Ok)
  · have hs : State.reset.faces[f].scan.state = .noSignal := congrArg (fun x : FaceState => x.scan.state) (hface f)
    rw [hs]
    exact fun h => (nomatch h)
  · exact congrArg (fun x : FaceState => x.scan.state) (hface f)
  · exact congrArg FaceState.causes (hface f)

/-! ### In reset -/

/-- A command answers a state that differs in the lines of the bus alone. -/
def AnswersBusOnly (s : State) (o : Host.Outcome State Fault Refusal) : Prop :=
  ∃ t, o = .next t ∧ t = { s with bus := t.bus }

theorem answersBusOnly_setBus (s : State) (b : BusOut) : AnswersBusOnly s (.next { s with bus := b }) := ⟨_, rfl, rfl⟩

theorem answersBusOnly_of_eq {s t : State} {b : BusOut} (h : t = { s with bus := b }) : AnswersBusOnly s (.next t) := by
  rw [h]; exact answersBusOnly_setBus s b

/-- What a command does where a condition holds that reset excludes. -/
theorem answersBusOnly_ite {s : State} {c : Prop} [Decidable c] (hc : c) (b : BusOut) (t : State) :
    AnswersBusOnly s (.next (if c then { s with bus := b } else t)) := by
  rw [if_pos hc]; exact answersBusOnly_setBus s b

theorem busCommand_in_reset {s : State} (h : s.inReset = true) (c : BusCommand) (f : State → State) :
    AnswersBusOnly s (.next (s.busCommand c f)) :=
  answersBusOnly_of_eq (busCommand_of_not_takesBus s c f (takesBus_of_inReset h))

theorem serviceWrite_in_reset {s : State} (h : s.inReset = true) (off : Nat) (data : Word) (m : Mask) :
    AnswersBusOnly s (.next (s.serviceWrite off data m)) := by
  rw [serviceWrite_of_not_takesBus s off data m (takesBus_of_inReset h)]
  exact answersBusOnly_ite h _ _

theorem reportReadBeat_in_reset {s : State} (h : s.inReset = true) (off : Nat) :
    AnswersBusOnly s (.next (s.reportReadBeat off)) :=
  answersBusOnly_of_eq (b := s.bus) (if_neg (by simp [takesBus_of_inReset h]))

theorem exec_in_reset {s : State} (h : s.inReset = true) {c : Instr} (hc : isReset c = false) :
    AnswersBusOnly s (exec c s) := by
  have ht := takesBus_of_inReset h
  have hor : ∀ b : Bool, (s.inReset || b) = true := fun b => by simp [h]
  cases c with
  | powerOnReset => simp [isReset] at hc
  | resetLine => simp [isReset] at hc
  | resetRelease p => simp [isReset] at hc
  | suspend => exact answersBusOnly_of_eq (b := s.bus) (if_neg (by simp [ht]))
  | resume => exact answersBusOnly_ite (hor _) s.bus _
  | openBank b r => exact busCommand_in_reset h _ _
  | read b c auto => exact busCommand_in_reset h _ _
  | write b c auto data m => exact answersBusOnly_of_eq (busCommand_of_not_takesBus (s.driveStore data m) _ _ ht)
  | close b => exact busCommand_in_reset h _ _
  | closeAll => exact busCommand_in_reset h _ _
  | refresh => exact busCommand_in_reset h _ _
  | sleepEnter =>
    have hs : s.passBegun (s.takesBus && s.tracker.resumed) = s := by rw [ht]; rfl
    exact answersBusOnly_of_eq
      ((congrArg (State.busCommand · _ _) hs).trans (busCommand_of_not_takesBus s _ _ ht))
  | sleepExit => exact answersBusOnly_ite (hor _) _ _
  | modeLoad c => exact busCommand_in_reset h _ _
  | burstStop => exact busCommand_in_reset h _ _
  | noOperation => exact busCommand_in_reset h _ _
  | burstBeatIssue data m => exact answersBusOnly_ite h _ _
  | burstComplete data m => exact answersBusOnly_ite h _ _
  | readBeatReturn data m cd => exact answersBusOnly_ite h _ _
  | unplacedArrival data m cd => exact answersBusOnly_ite h _ _
  | stagingWrite off data m => exact serviceWrite_in_reset h _ _ _
  | timeWordWrite data m => exact serviceWrite_in_reset h _ _ _
  | modeDeclaration data m => exact serviceWrite_in_reset h _ _ _
  | commitRequest data m => exact serviceWrite_in_reset h _ _ _
  | validationFailure => exact answersBusOnly_ite (hor _) s.bus _
  | switch => exact answersBusOnly_of_eq (b := s.bus) (if_pos (by simp [h]))
  | restartRequest data m => exact serviceWrite_in_reset h _ _ _
  | monitorRestart => exact answersBusOnly_ite (hor _) s.bus _
  | run f up m => exact serviceWrite_in_reset h _ _ _
  | hold f up m => exact serviceWrite_in_reset h _ _ _
  | blank f up m => exact serviceWrite_in_reset h _ _ _
  | dark f up m => exact serviceWrite_in_reset h _ _ _
  | release f up m => exact serviceWrite_in_reset h _ _ _
  | oneMsEvent => exact answersBusOnly_ite h s.bus _
  | dimmingTick => exact answersBusOnly_ite h s.bus _
  | sensorFrameArrival n0 n1 n2 n3 n4 n5 => exact answersBusOnly_ite h s.bus _
  | sensorIncompleteFrame => exact answersBusOnly_ite h s.bus _
  | staleTimerExpiry ch => exact answersBusOnly_ite h s.bus _
  | stallTimerExpiry f => exact answersBusOnly_ite h s.bus _
  | tileFrameArrival b0 b1 b2 b3 b4 => exact answersBusOnly_ite h s.bus _
  | tileIncompleteFrame => exact answersBusOnly_ite h s.bus _
  | silentTimerExpiry f i => exact answersBusOnly_ite h s.bus _
  | record => exact answersBusOnly_ite h s.bus _
  | choice => exact answersBusOnly_ite h s.bus _
  | writeEnd => exact answersBusOnly_ite h s.bus _
  | acknowledgment k m => exact serviceWrite_in_reset h _ _ _
  | slotInactive k m => exact serviceWrite_in_reset h _ _ _
  | filterWrite k data m => exact serviceWrite_in_reset h _ _ _
  | headerRead k => exact reportReadBeat_in_reset h _
  | stampWordRead => exact reportReadBeat_in_reset h _
  | reservedWrite off data m => exact serviceWrite_in_reset h _ _ _

/-- Settles O6: in reset every command passes lines alone, and read data leave scaled by the fallback factor. -/
theorem inResetOnlyTheBusLinesPass : Obligations.InResetOnlyTheBusLinesPass := by
  intro s c level
  have hlevel : Config.fallbackLevel = level := rfl
  have hfactor : s.fallbackFactor = (s.straps.map level).getD 0 := by
    rw [← hlevel, State.fallbackFactor]
    cases s.straps <;> rfl
  refine ⟨fun _ _ => rfl, hfactor, fun hr => ⟨fun hc => exec_in_reset hr hc, fun data m cd => ?_⟩⟩
  rw [← hfactor]
  exact ⟨s.deliverFallback data, congrArg _ (if_pos hr), congrArg _ (if_pos hr), rfl⟩

/-! ### Outside a position -/

/-- A command that is only re-driven, outside a position. -/
theorem next_busCommand_of_not_takesBus {s : State} (h : s.takesBus = false) (c : BusCommand) (f : State → State) :
    (Host.Outcome.next (s.busCommand c f) : Host.Outcome State Fault Refusal) =
      .next { s with bus := { s.bus with command := c } } := by
  rw [busCommand_of_not_takesBus s c f h]; rfl

/-- Settles O19: without a position a bus command is re-driven, and out of reset a beat changes nothing. -/
theorem commandsOutsideAPositionAreNotTaken : Obligations.CommandsOutsideAPositionAreNotTaken := by
  intro s b r c auto codes data m f k off any
  refine ⟨fun hs => ?_, fun hs => ?_, fun hr ha => ?_, fun ht => ?_⟩
  · exact congrArg _ (if_pos (by simp [hs]))
  · exact congrArg _ (if_pos (by simp [hs]))
  · have ht : s.takesBus = false := by simp [State.takesBus, ha]
    have hbeat {c : Bool} {t u : State} :
        (if s.inReset then t else if s.takesBus && c then u else s) = s := by simp [hr, ht]
    have hdata {t u : State} : (if s.inReset then t else if s.takesBus then u else s) = s := by simp [hr, ht]
    have hwrite (off : Nat) (data : Word) : s.serviceWrite off data m = s := by
      rw [serviceWrite_of_not_takesBus s off data m ht, if_neg (by simp [hr])]
    have hread (off : Nat) : s.reportReadBeat off = s := if_neg (by simp [ht])
    exact ⟨congrArg _ hbeat, congrArg _ hbeat, congrArg _ hdata, congrArg _ hdata, congrArg _ (hwrite _ _),
      congrArg _ (hwrite _ _), congrArg _ (hwrite _ _), congrArg _ (hwrite _ _), congrArg _ (hwrite _ _),
      congrArg _ (hwrite _ _), congrArg _ (hwrite _ _), congrArg _ (hwrite _ _), congrArg _ (hwrite _ _),
      congrArg _ (hwrite _ _), congrArg _ (hwrite _ _), congrArg _ (hwrite _ _), congrArg _ (hwrite _ _),
      congrArg _ (hread _), congrArg _ (hread _), congrArg _ (hwrite _ _)⟩
  · have hdriven := fun c f => next_busCommand_of_not_takesBus ht c f
    have hs : s.passBegun (s.takesBus && s.tracker.resumed) = s := by rw [ht]; rfl
    refine ⟨hdriven _ _, hdriven _ _, next_busCommand_of_not_takesBus (s := s.driveStore data m) ht _ _, hdriven _ _,
      hdriven _ _, hdriven _ _, ?_, hdriven _ _, hdriven _ _, hdriven _ _, ?_⟩
    · exact (congrArg (fun t => Host.Outcome.next (State.busCommand t _ _)) hs).trans (hdriven _ _)
    · exact congrArg _ (if_neg (by simp [ht]))

/-! ### The time word and the mode declaration -/

/-- A field of a word, in arithmetic. -/
theorem bits_eq (w : Word) (lo n : Nat) : bits w lo n = w.toNat / 2 ^ lo % 2 ^ n := by
  rw [bits, Nat.shiftRight_eq_div_pow]

theorem whole_iff (m : Mask) : whole m = true ↔ m = 0#4 := by simp [whole]

/-- A write beat at the time word (R39, R40, R68). -/
theorem policyWrite_timeWord (s : State) (data : Word) (m : Mask) :
    s.policyWrite 0 data m =
      if m = 0#4 ∧ bits data 16 14 < 10080 ∧ bits data 0 16 < 60000 then s.setTime (bits data 16 14) (bits data 0 16)
      else s := by
  simp only [State.policyWrite, State.immediateWrite, whole_iff, Bool.and_eq_true, decide_eq_true_eq, ite_and]
  rfl

/-- A write beat at the mode declaration word (R9, R39, R41). -/
theorem policyWrite_modeWord (s : State) (data : Word) (m : Mask) :
    s.policyWrite 1 data m =
      if m = 0#4 ∧ codesValid (declaredCodes data) = true then s.declare (declaredCodes data) else s := by
  simp only [State.policyWrite, State.immediateWrite, whole_iff, ite_and]
  rfl

/-- The codes of a mode declaration word, in arithmetic (12.3). -/
theorem declaredCodes_eq (w : Word) :
    (declaredCodes w).length.toNat = w.toNat % 8 ∧ (declaredCodes w).latency.toNat = w.toNat / 16 % 8 := by
  simp [declaredCodes, bits_eq]

/-- A declaration taken: the image, and a clear out of LOST (R9, R10). -/
theorem declare_eq {s : State} (h : s.InboxOk) (c : ModeCodes) :
    s.declare c =
      { s with
        tracker := { s.tracker with mode := codesImage c .declared }
        inbox := s.inbox ++
          if s.tracker.mode.source = .unknown then [.record (s.mkRecord .bus 0 24 .clear 0)] else [] } := by
  have hsrc : (codesImage c .declared).source ≠ .unknown := by simp [codesImage]
  rw [← trackRecords_of_known s hsrc]
  exact hand_trackRecords (s := s.setMode (codesImage c .declared)) h s _

/-- Settles O29: the time word and the mode declaration word take a whole valid word and discard any other. -/
theorem timeWordAndModeDeclaration : Obligations.TimeWordAndModeDeclaration := by
  intro s data m ht s' minute ms
  have hwrite (off : Nat) (h : off < 2048) :
      (Host.Outcome.next (s.serviceWrite off data m) : Host.Outcome State Fault Refusal) =
        .next (s'.policyWrite off data m) := by
    rw [serviceWrite_of_takesBus s off data m ht, if_pos h]; rfl
  refine ⟨?_, ?_⟩
  · have hmin : bits data 16 14 = minute := bits_eq data 16 14
    have hms : bits data 0 16 = ms := by simp [bits_eq, ms]
    refine (hwrite 0 (by decide)).trans (congrArg _ ?_)
    rw [policyWrite_timeWord, hmin, hms]
    rfl
  · intro latency valid
    obtain ⟨hlen, hlat⟩ := declaredCodes_eq data
    have hvalid : codesValid (declaredCodes data) = true ↔ valid := by
      rw [codesValid_iff, hlen, hlat]; rfl
    refine ⟨fun hno => (hwrite 1 (by decide)).trans (congrArg _ ?_), fun x hx hxlen hm hin hv =>
      (hwrite 1 (by decide)).trans (congrArg _ ?_)⟩
    · rw [policyWrite_modeWord, if_neg]
      rintro ⟨hm, hc⟩
      exact hno.elim (· hm) (· (hvalid.mp hc))
    · rw [policyWrite_modeWord, if_pos ⟨hm, hvalid.mpr hv⟩, declare_eq (s := s') hin,
        codesImage_eq hx (hlen.trans hxlen), hlat]
      rfl

end Sys2Proof.Machine
end

section
/-! SUPPORT. What every event but the named ones leaves: the strap image, the stamp, the active and region tables, and
of each face its frame factor and held level (R23, R27, R59, R64, R94, R98, R116). -/

namespace Sys2Proof.Machine

/-! ### One face -/

/-- Mode, held level and frame factor stand. -/
structure FaceState.Same (x y : FaceState) : Prop where
  mode : y.mode = x.mode
  held : y.level.held = x.level.held
  factor : y.pixel.factor = x.pixel.factor

/-- A read beat may latch a frame factor (R115). -/
structure FaceState.AfterRead (x y : FaceState) : Prop where
  held : y.level.held = x.level.held

/-- A write beat may enter DARK, which makes the held level 0 (R98). -/
structure FaceState.AfterWrite (x y : FaceState) : Prop where
  factor : y.pixel.factor = x.pixel.factor
  held : y.level.held = x.level.held ∨ (y.level.held = 0 ∧ x.mode ≠ .dark ∧ y.mode = .dark)

/-- A tick may move the held level (R94). -/
structure FaceState.AfterTick (x y : FaceState) : Prop where
  factor : y.pixel.factor = x.pixel.factor

theorem FaceState.Same.refl (x : FaceState) : x.Same x := ⟨rfl, rfl, rfl⟩

theorem FaceState.Same.trans {x y z : FaceState} (h : x.Same y) (k : y.Same z) : x.Same z :=
  ⟨k.mode.trans h.mode, k.held.trans h.held, k.factor.trans h.factor⟩

/-- A relation of a face before and after that holds of a face left as it was, and absorbs what leaves the face. -/
structure AbsorbsSame (R : FaceState → FaceState → Prop) : Prop where
  of_same : ∀ {x y}, x.Same y → R x y
  before : ∀ {x y z}, x.Same y → R y z → R x z
  after : ∀ {x y z}, R x y → y.Same z → R x z

theorem absorbs_same : AbsorbsSame FaceState.Same := ⟨id, .trans, .trans⟩

theorem absorbs_afterRead : AbsorbsSame FaceState.AfterRead :=
  ⟨fun h => ⟨h.held⟩, fun h k => ⟨k.held.trans h.held⟩, fun h k => ⟨k.held.trans h.held⟩⟩

theorem absorbs_afterWrite : AbsorbsSame FaceState.AfterWrite where
  of_same h := ⟨h.factor, .inl h.held⟩
  before h k := ⟨k.factor.trans h.factor, k.held.imp (·.trans h.held) fun ⟨h0, hm, hd⟩ => ⟨h0, h.mode ▸ hm, hd⟩⟩
  after h k := ⟨k.factor.trans h.factor, h.held.imp k.held.trans
    fun ⟨h0, hm, hd⟩ => ⟨k.held.trans h0, hm, k.mode.trans hd⟩⟩

theorem absorbs_afterTick : AbsorbsSame FaceState.AfterTick :=
  ⟨fun h => ⟨h.factor⟩, fun h k => ⟨k.factor.trans h.factor⟩, fun h k => ⟨k.factor.trans h.factor⟩⟩

/-! ### The whole state -/

/-- What no event but a switch and a reset changes (R23, R27, R59). -/
def State.settings (s : State) : Bool × Option Straps × Tables × Vector Region 8 :=
  (s.inReset, s.straps, s.policy.active, s.regions)

/-- What no event but the 1 ms event and a reset changes of the Time Base (R64, R65, R69). -/
def State.clock (s : State) : Stamp × Nat × Nat := (s.time.stamp, s.time.prescaler, s.time.phase)

theorem settings_eq_iff {s t : State} :
    t.settings = s.settings ↔
      t.inReset = s.inReset ∧ t.straps = s.straps ∧ t.policy.active = s.policy.active ∧ t.regions = s.regions := by
  simp [State.settings]

theorem clock_eq_iff {s t : State} :
    t.clock = s.clock ↔
      t.time.stamp = s.time.stamp ∧ t.time.prescaler = s.time.prescaler ∧ t.time.phase = s.time.phase := by
  simp [State.clock]

/-- An operation keeps settings and clock, and relates every face as R says. -/
structure Keeps (R : FaceState → FaceState → Prop) (s t : State) : Prop where
  settings : t.settings = s.settings
  clock : t.clock = s.clock
  face : ∀ f : Fin 8, R s.faces[f] t.faces[f]

/-- An operation keeps settings and clock, and of every face mode, held level and frame factor. -/
abbrev KeepsAll : State → State → Prop := Keeps FaceState.Same

theorem Keeps.refl (s : State) : KeepsAll s s := ⟨rfl, rfl, fun _ => .refl _⟩

theorem Keeps.of_eq {s t : State} (h1 : t.settings = s.settings) (h2 : t.clock = s.clock)
    (h3 : t.faces = s.faces) : KeepsAll s t := ⟨h1, h2, fun f => by rw [h3]; exact .refl _⟩

theorem Keeps.keeps {R : FaceState → FaceState → Prop} (hR : AbsorbsSame R) {s t : State} (h : KeepsAll s t) :
    Keeps R s t := ⟨h.settings, h.clock, fun f => hR.of_same (h.face f)⟩

theorem Keeps.before {R : FaceState → FaceState → Prop} (hR : AbsorbsSame R) {s t u : State} (h : KeepsAll s t)
    (k : Keeps R t u) : Keeps R s u :=
  ⟨k.settings.trans h.settings, k.clock.trans h.clock, fun f => hR.before (h.face f) (k.face f)⟩

theorem Keeps.after {R : FaceState → FaceState → Prop} (hR : AbsorbsSame R) {s t u : State} (h : Keeps R s t)
    (k : KeepsAll t u) : Keeps R s u :=
  ⟨k.settings.trans h.settings, k.clock.trans h.clock, fun f => hR.after (h.face f) (k.face f)⟩

theorem Keeps.trans {s t u : State} (h : KeepsAll s t) (k : KeepsAll t u) : KeepsAll s u :=
  h.before absorbs_same k

theorem Keeps.ite {R : FaceState → FaceState → Prop} {s a b : State} {c : Prop} [Decidable c] (ha : Keeps R s a)
    (hb : Keeps R s b) : Keeps R s (if c then a else b) := by split <;> assumption

theorem Keeps.foldl {α : Type} {op : State → α → State} (h : ∀ s a, KeepsAll s (op s a)) (l : List α) (s : State) :
    KeepsAll s (l.foldl op s) := by
  induction l generalizing s with
  | nil => exact .refl s
  | cons a l ih => exact (h s a).trans (ih _)

/-- One face changed in a way that R allows. -/
theorem modFace_keeps {R : FaceState → FaceState → Prop} (hR : AbsorbsSame R) (s : State) (f : Fin 8)
    {g : FaceState → FaceState} (hg : R s.faces[f] (g s.faces[f])) : Keeps R s (s.modFace f g) where
  settings := rfl
  clock := rfl
  face k := by
    by_cases h : f.val = k.val
    · obtain rfl := Fin.ext h
      simpa using hg
    · simpa [h] using hR.of_same (.refl _)

/-- Every face changed in a way that R allows. -/
theorem mapFaces_keeps {R : FaceState → FaceState → Prop} (s : State) {g : Fin 8 → FaceState → FaceState}
    (hg : ∀ f, R s.faces[f] (g f s.faces[f])) : Keeps R s (s.mapFaces g) where
  settings := rfl
  clock := rfl
  face k := by
    rw [State.mapFaces_faces, tabulate_get]
    exact hg k

/-! ### Handing over, restart and the end of a stall -/

theorem drain_keepsAll (s : State) (ns : List Notice) : KeepsAll s (s.drain ns) where
  settings := by rw [drain_frame]; rfl
  clock := by rw [drain_frame]; rfl
  face f := by rw [drain_face]; exact ⟨rfl, rfl, rfl⟩

theorem hand_keepsAll (s : State) (ns : List Notice) : KeepsAll s (s.hand ns) := drain_keepsAll s _

theorem Keeps.hand {s t : State} (h : KeepsAll s t) (ns : List Notice) : KeepsAll s (t.hand ns) :=
  h.trans (hand_keepsAll t ns)

theorem takeRecord_keepsAll (s : State) (r : Record) : KeepsAll s (s.takeRecord r) where
  settings := by rw [takeRecord_frame]; rfl
  clock := by rw [takeRecord_frame]; rfl
  face f := by rw [takeRecord_face]; exact ⟨rfl, rfl, rfl⟩

theorem endStall_keepsAll (s : State) (f : Fin 8) : KeepsAll s (s.endStall f) where
  settings := rfl
  clock := rfl
  face g := by rw [endStall_face]; exact ⟨rfl, rfl, rfl⟩

theorem modReport_keepsAll (s : State) (g : Report → Report) : KeepsAll s (s.modReport g) := .of_eq rfl rfl rfl

theorem faceRestart_same (x : FaceState) (b : Bool) : x.Same (x.restart b) := by
  cases b <;> exact ⟨rfl, rfl, rfl⟩

theorem restart_keepsAll (s : State) : KeepsAll s s.restart :=
  (mapFaces_keeps s fun _ => faceRestart_same _ _).trans (.of_eq rfl rfl rfl)

theorem settleRestart_keepsAll (s : State) : KeepsAll s s.settleRestart := .ite (restart_keepsAll s) (.refl s)

theorem requestRestart_keepsAll (s : State) : KeepsAll s s.requestRestart :=
  .ite (.refl s) (.ite (restart_keepsAll s) (.of_eq rfl rfl rfl))

/-! ### Write beats -/

theorem faceModeWrite_afterWrite (x : FaceState) (m : Mode) (up : Bool) : x.AfterWrite (x.modeWrite m up) := by
  unfold FaceState.modeWrite
  simp only []
  split
  · rename_i h
    obtain ⟨rfl, hx⟩ : m = .dark ∧ x.mode ≠ .dark := by simpa using h
    exact ⟨rfl, .inr ⟨rfl, hx, rfl⟩⟩
  · exact ⟨rfl, .inl rfl⟩

theorem modeWrite_keeps (s : State) (f : Fin 8) (m : Mode) (up : Bool) :
    Keeps FaceState.AfterWrite s (s.modeWrite f m up) := by
  have hm := modFace_keeps absorbs_afterWrite s f (g := fun x => x.modeWrite m up) (faceModeWrite_afterWrite _ m up)
  exact .ite (hm.after absorbs_afterWrite (endStall_keepsAll _ f)) hm

theorem faceModeWord_keeps (s : State) (f : Fin 8) (w : Word) : Keeps FaceState.AfterWrite s (s.faceModeWord f w) := by
  have hs := (Keeps.refl s).keeps absorbs_afterWrite
  refine .ite hs (.ite (Keeps.keeps absorbs_afterWrite (modFace_keeps absorbs_same s f ⟨rfl, rfl, rfl⟩)) ?_)
  split
  · exact modeWrite_keeps s f _ _
  · exact hs

theorem declare_keepsAll (s : State) (c : ModeCodes) : KeepsAll s (s.declare c) := by
  refine Keeps.hand ?_ _
  exact .of_eq rfl rfl rfl

theorem request_active (p : Policy) (m : BitVec 6) (q : Byte) : (p.request m q).active = p.active := by
  unfold Policy.request; split <;> rfl

theorem stage_active (p : Policy) (a : StagedAddr) (d : Word) (m : Mask) : (p.stage a d m).active = p.active := by
  unfold Policy.stage; repeat' split
  all_goals rfl

/-- The Policy Block changed but for its active tables. -/
theorem setPolicy_keepsAll (s : State) {p : Policy} (h : p.active = s.policy.active) :
    KeepsAll s { s with policy := p } := .of_eq (settings_eq_iff.mpr ⟨rfl, rfl, h, rfl⟩) rfl rfl

theorem immediateWrite_keeps (s : State) (off : Nat) (w : Word) :
    Keeps FaceState.AfterWrite s (s.immediateWrite off w) := by
  have hs {t : State} (h : KeepsAll s t) : Keeps FaceState.AfterWrite s t := h.keeps absorbs_afterWrite
  exact .ite (hs (.ite (.of_eq rfl rfl rfl) (.refl s))) (.ite (hs (.ite (declare_keepsAll s _) (.refl s)))
    (.ite (hs (setPolicy_keepsAll s (request_active _ _ _)))
      (.ite (hs (.ite (requestRestart_keepsAll s) (.refl s))) (.ite (faceModeWord_keeps s _ w) (hs (.refl s))))))

/-- A staged word, or an offset that takes no write. -/
theorem stagedWrite_keepsAll (s : State) (a : Option StagedAddr) (data : Word) (m : Mask) :
    KeepsAll s (match a with
      | some a => { s with policy := s.policy.stage a data m }
      | none => s) := by
  cases a with
  | some a => exact setPolicy_keepsAll s (stage_active _ _ _ _)
  | none => exact .refl s

theorem reportWrite_keepsAll (s : State) (off : Nat) (data : Word) (m : Mask) :
    KeepsAll s (s.reportWrite off data m) := by
  unfold State.reportWrite; split
  · exact .ite (modReport_keepsAll s _) (.refl s)
  · exact modReport_keepsAll s _
  · exact .refl s

theorem liveWrite_keepsAll (s : State) (f : Fin 8) (b : Buffer) : KeepsAll s (s.liveWrite f b) :=
  .ite (modFace_keeps absorbs_same s f ⟨rfl, rfl, rfl⟩) (.refl s)

/-- A write beat handed over: at most a mode write (R44). -/
theorem takeWrite_keeps (s : State) (c : BeatClass) (data : Word) (m : Mask) :
    Keeps FaceState.AfterWrite s (s.takeWrite c data m) := by
  have hs {t : State} (h : KeepsAll s t) : Keeps FaceState.AfterWrite s t := h.keeps absorbs_afterWrite
  cases c with
  | unattributed => exact hs (.refl s)
  | policy off =>
    exact .ite (.ite (immediateWrite_keeps s off data) (hs (.refl s))) (hs (stagedWrite_keepsAll s _ data m))
  | report off => exact hs (reportWrite_keepsAll s off data m)
  | pixel f b x line z => exact hs (liveWrite_keepsAll s f b)
  | padding f b => exact hs (liveWrite_keepsAll s f b)
  | other c => exact hs (.refl s)

/-- A masked write beat writes no immediate word (R39). -/
theorem takeWrite_masked_keepsAll (s : State) (c : BeatClass) (data : Word) {m : Mask} (hm : whole m = false) :
    KeepsAll s (s.takeWrite c data m) := by
  cases c with
  | unattributed => exact .refl s
  | policy off =>
    have hi : (if whole m then s.immediateWrite off data else s) = s := if_neg (by simp [hm])
    exact .ite (by rw [hi]; exact .refl s) (stagedWrite_keepsAll s _ data m)
  | report off => exact reportWrite_keepsAll s off data m
  | pixel f b x line z => exact liveWrite_keepsAll s f b
  | padding f b => exact liveWrite_keepsAll s f b
  | other c => exact .refl s

theorem serviceWrite_keeps (s : State) (off : Nat) (data : Word) (m : Mask) :
    Keeps FaceState.AfterWrite s (s.serviceWrite off data m) := by
  have hd : KeepsAll s (s.driveStore data m) := .of_eq rfl rfl rfl
  exact .ite (hd.keeps absorbs_afterWrite) (.ite ((Keeps.refl s).keeps absorbs_afterWrite)
    (hd.before absorbs_afterWrite (takeWrite_keeps _ _ data m)))

/-! ### Read beats -/

theorem countBeat_factor (p : PixelState) (a b : Word) : (p.countBeat a b).factor = p.factor := by
  unfold PixelState.countBeat; split <;> rfl

theorem scalePixel_keepsAll (s : State) (f : Fin 8) (z : Fin 16) (w : Word) : KeepsAll s (s.scalePixel f z w) :=
  (modFace_keeps absorbs_same s f (g := fun x => { x with pixel := x.pixel.countBeat w (s.pixelOut f z w) })
    ⟨rfl, rfl, countBeat_factor _ _ _⟩).trans (.of_eq rfl rfl rfl)

theorem startBeat_keeps (s : State) (f : Fin 8) (b : Buffer) (l : Nat) (z : Fin 16) (w : Word) :
    Keeps FaceState.AfterRead s (s.startBeat f b l z w) := by
  have hs : Keeps FaceState.AfterRead s (s.frameStarted f b l) := modFace_keeps absorbs_afterRead s f ⟨rfl⟩
  have hafter (ns : List Notice) := hs.after absorbs_afterRead
    ((hand_keepsAll _ ns).trans (scalePixel_keepsAll ((s.frameStarted f b l).hand ns) f z w))
  have hbefore (ns : List Notice) := hs.after absorbs_afterRead
    ((scalePixel_keepsAll _ f z w).trans (hand_keepsAll ((s.frameStarted f b l).scalePixel f z w) ns))
  exact .ite (hafter _) (Keeps.after absorbs_afterRead (.ite (hafter _) (hbefore _)) (.of_eq rfl rfl rfl))

theorem startStallTimer_keepsAll (s : State) (f : Fin 8) : KeepsAll s (s.startStallTimer f) :=
  modFace_keeps absorbs_same s f ⟨rfl, rfl, rfl⟩

theorem pixelRead_keeps (s : State) (f : Fin 8) (b : Buffer) (l : Nat) (z : Fin 16) (w : Word) :
    Keeps FaceState.AfterRead s (s.pixelRead f b l z w) := by
  have hs {t : State} (h : KeepsAll s t) : Keeps FaceState.AfterRead s t := h.keeps absorbs_afterRead
  have ht := startStallTimer_keepsAll s f
  refine .ite (hs (scalePixel_keepsAll s f z w)) (.ite (ht.before absorbs_afterRead (startBeat_keeps _ f b l z w))
    (hs (ht.trans (Keeps.trans ?_ (scalePixel_keepsAll _ f z w)))))
  exact modFace_keeps absorbs_same _ f ⟨rfl, rfl, rfl⟩

/-- A read beat handed over: at most a frame start (R115). -/
theorem takeRead_keeps (s : State) (c : BeatClass) (w : Word) : Keeps FaceState.AfterRead s (s.takeRead c w) := by
  have hs {t : State} (h : KeepsAll s t) : Keeps FaceState.AfterRead s t := h.keeps absorbs_afterRead
  cases c with
  | unattributed => exact hs (.of_eq rfl rfl rfl)
  | policy off => exact hs (.of_eq rfl rfl rfl)
  | report off => exact hs (.of_eq rfl rfl rfl)
  | pixel f b x line z => exact pixelRead_keeps s f b line z w
  | padding f b => exact hs (.of_eq rfl rfl rfl)
  | other c => exact hs (.of_eq rfl rfl rfl)

theorem reportReadBeat_keepsAll (s : State) (off : Nat) : KeepsAll s (s.reportReadBeat off) :=
  .ite (.of_eq rfl rfl rfl) (.refl s)

/-! ### Positions -/

theorem setTracker_keepsAll (s : State) (t : Tracker) : KeepsAll s (s.setTracker t) := .of_eq rfl rfl rfl

theorem issueBeat_keeps (s : State) (data : Word) (m : Mask) : Keeps FaceState.AfterWrite s (s.issueBeat data m) := by
  rcases s.tracker.burst_cases with ⟨w, hw⟩ | ⟨e, hw, he⟩ | hn
  · rw [issueBeat_of_write hw]
    exact (setTracker_keepsAll s _).before absorbs_afterWrite (takeWrite_keeps _ _ data m)
  · rw [issueBeat_of_reading hw he]
    exact (setTracker_keepsAll s _).keeps absorbs_afterWrite
  · rw [issueBeat_of_no_burst hn]
    exact (Keeps.refl s).keeps absorbs_afterWrite

theorem finishPosition_keepsAll (s : State) : KeepsAll s s.finishPosition := by
  rcases finishPosition_cases s with ⟨h, -⟩ | ⟨h, -, -⟩ <;> rw [h]
  · exact .refl s
  · rcases s.tracker.burst_cases with ⟨w, hw⟩ | ⟨e, hw, he⟩ | hn
    · rw [issueBeat_of_write hw]
      exact (setTracker_keepsAll s _).trans (takeWrite_masked_keepsAll _ _ _ rfl)
    · rw [issueBeat_of_reading hw he]
      exact setTracker_keepsAll s _
    · rw [issueBeat_of_no_burst hn]
      exact .refl s

theorem beginPosition_keepsAll (s : State) : KeepsAll s s.beginPosition :=
  ((finishPosition_keepsAll s).trans (setTracker_keepsAll _ _)).trans
    (.ite ((setTracker_keepsAll _ _).trans (settleRestart_keepsAll _)) (.refl _))

theorem passPositions_keepsAll (s : State) (n : Nat) : KeepsAll s (s.passPositions n) := by
  induction n generalizing s with
  | zero => exact .refl s
  | succ n ih => exact (beginPosition_keepsAll s).trans (ih _)

theorem passBegun_keepsAll (s : State) (c : Bool) : KeepsAll s (s.passBegun c) :=
  .ite (beginPosition_keepsAll s) (.refl s)

theorem untilDue_keepsAll (s : State) : KeepsAll s s.untilDue := by
  cases h : s.tracker.due with
  | nil => rw [untilDue_nil h]; exact .refl s
  | cons d ds => rw [untilDue_cons h]; exact (passPositions_keepsAll s _).trans (finishPosition_keepsAll _)

/-- A bus command, at its position or only re-driven. -/
theorem busCommand_keeps {R : FaceState → FaceState → Prop} (hR : AbsorbsSame R) (s : State) (c : BusCommand)
    {f : State → State} (hf : ∀ p, Keeps R p (f p)) : Keeps R s (s.busCommand c f) := by
  have hd : KeepsAll s (s.driveCommand c) := .of_eq rfl rfl rfl
  exact .ite (((hd.trans (beginPosition_keepsAll _)).before hR (hf _)).after hR (settleRestart_keepsAll _))
    (hd.keeps hR)

theorem anomalyIf_keepsAll (s : State) (c : Bool) (k : Nat) : KeepsAll s (s.anomalyIf c k) :=
  .ite (hand_keepsAll s _) (.refl s)

theorem access_keepsAll (s : State) (b : Fin 4) : KeepsAll s (s.access b) := by
  rw [access_eq]
  exact ((anomalyIf_keepsAll s _ 8).trans (setTracker_keepsAll _ _)).trans (anomalyIf_keepsAll _ _ 1)

theorem takeReadCommand_keeps (s : State) (b : Fin 4) (c : Column) (auto : Bool) :
    Keeps FaceState.AfterWrite s (s.takeReadCommand b c auto) :=
  .ite (((access_keepsAll s b).trans (setTracker_keepsAll _ _)).before absorbs_afterWrite (issueBeat_keeps _ _ _))
    ((access_keepsAll s b).keeps absorbs_afterWrite)

theorem takeWriteCommand_keeps (s : State) (b : Fin 4) (c : Column) (auto : Bool) (data : Word) (m : Mask) :
    Keeps FaceState.AfterWrite s (s.takeWriteCommand b c auto data m) := by
  unfold State.takeWriteCommand
  exact ((access_keepsAll s b).trans (setTracker_keepsAll _ _)).before absorbs_afterWrite (issueBeat_keeps _ _ _)

theorem takeRefresh_keepsAll (s : State) : KeepsAll s s.takeRefresh :=
  .ite ((hand_keepsAll s _).trans (setTracker_keepsAll _ _)) (.refl s)

theorem haltStallTimers_keepsAll (s : State) : KeepsAll s s.haltStallTimers := by
  refine mapFaces_keeps _ fun f => ?_
  split <;> exact ⟨rfl, rfl, rfl⟩

theorem takeSleep_keepsAll (s : State) : KeepsAll s s.takeSleep :=
  ((anomalyIf_keepsAll s _ 5).trans (setTracker_keepsAll _ _)).trans (haltStallTimers_keepsAll _)

theorem restartStallTimers_keepsAll (s : State) : KeepsAll s s.restartStallTimers := by
  refine mapFaces_keeps _ fun f => ?_
  split <;> exact ⟨rfl, rfl, rfl⟩

theorem takeModeLoad_keepsAll (s : State) (c : ModeCodes) : KeepsAll s (s.takeModeLoad c) :=
  .ite (((anomalyIf_keepsAll s _ 4).hand _).trans (setTracker_keepsAll _ _))
    ((((anomalyIf_keepsAll s _ 4).trans (hand_keepsAll _ _)).hand _).trans (setTracker_keepsAll _ _))

theorem burstBeat_keeps (s : State) (data : Word) (m : Mask) : Keeps FaceState.AfterWrite s (s.burstBeat data m) :=
  Keeps.before absorbs_afterWrite (.ite (beginPosition_keepsAll s) (.refl s)) (issueBeat_keeps _ data m)

theorem driveIfWrite_keepsAll (s : State) (data : Word) (m : Mask) : KeepsAll s (s.driveIfWrite data m) :=
  .ite (.of_eq rfl rfl rfl) (.refl s)

/-- Both commands that issue a burst beat. -/
theorem burstCommand_keeps (s : State) (data : Word) (m : Mask) (c : Bool) :
    Keeps FaceState.AfterWrite s (if s.inReset then s.driveStore data m
      else if c then (s.driveIfWrite data m).burstBeat data m else s) :=
  .ite (Keeps.keeps absorbs_afterWrite (.of_eq rfl rfl rfl))
    (.ite ((driveIfWrite_keepsAll s data m).before absorbs_afterWrite (burstBeat_keeps _ data m))
      ((Keeps.refl s).keeps absorbs_afterWrite))

theorem returnDelivered_keeps_faces (s : State) (w : Option Nat) (data : Word) :
    Keeps FaceState.AfterRead s (s.returnDelivered w data) := by
  have hread (u : State) : Keeps FaceState.AfterRead u (u.readBeat w data) := takeRead_keeps u _ data
  exact .ite (Keeps.after absorbs_afterRead (.ite ((settleRestart_keepsAll s).before absorbs_afterRead (hread _))
    ((hread s).after absorbs_afterRead (settleRestart_keepsAll _))) (.of_eq rfl rfl rfl)) (hread s)

theorem deliver_keepsAll (s : State) (w : Word) : KeepsAll s (s.deliver w) := .of_eq rfl rfl rfl

theorem takeReturn_keeps (s : State) (data : Word) (m : Mask) (cd : Bool) :
    Keeps FaceState.AfterRead s (s.takeReturn data m cd) := by
  have hs := (Keeps.refl s).keeps absorbs_afterRead
  unfold State.takeReturn
  split
  · exact hs
  · have hr : KeepsAll s (s.setTracker s.tracker.returned).noteArrival := .of_eq rfl rfl rfl
    exact .ite hs (.ite (hr.before absorbs_afterRead (returnDelivered_keeps_faces _ _ data))
      (((hr.trans (deliver_keepsAll _ data)).trans (settleRestart_keepsAll _)).keeps absorbs_afterRead))

theorem takeUnplaced_keepsAll (s : State) (data : Word) (m : Mask) (cd : Bool) :
    KeepsAll s (s.takeUnplaced data m cd) := by
  have h : KeepsAll s s.finishPosition.noteArrival := (finishPosition_keepsAll s).trans (setTracker_keepsAll _ _)
  exact .ite (.refl s) (.ite (h.trans (.of_eq rfl rfl rfl)) (h.trans (.of_eq rfl rfl rfl)))

/-! ### Time, light and tiles -/

theorem staleExpiry_keepsAll (s : State) (ch : Fin 4) : KeepsAll s (s.staleExpiry ch) := by
  refine .ite (Keeps.hand ?_ _) (.refl s)
  exact .of_eq rfl rfl rfl

theorem stallExpiry_keepsAll (s : State) (f : Fin 8) : KeepsAll s (s.stallExpiry f) := by
  refine .ite (Keeps.hand ?_ _) (.refl s)
  exact modFace_keeps absorbs_same s f ⟨rfl, rfl, rfl⟩

theorem silentExpiry_keepsAll (s : State) (f : Fin 8) (i : Fin 32) : KeepsAll s (s.silentExpiry f i) := by
  refine .ite (Keeps.hand ?_ _) (.refl s)
  exact .of_eq rfl rfl rfl

theorem takeExpiries_keepsAll (s : State) : KeepsAll s s.takeExpiries :=
  ((Keeps.foldl staleExpiry_keepsAll _ _).trans (.foldl stallExpiry_keepsAll _ _)).trans
    (.foldl (fun s f => .foldl (fun s i => silentExpiry_keepsAll s f i) _ s) _ _)

/-- The expiries leave the whole Time Base. -/
theorem takeExpiries_time (s : State) : s.takeExpiries.time = s.time := by
  have hfold {α : Type} {op : State → α → State} (h : ∀ s a, (op s a).time = s.time) (l : List α) (s : State) :
      (l.foldl op s).time = s.time := by
    induction l generalizing s with
    | nil => rfl
    | cons a l ih => exact (ih _).trans (h s a)
  unfold State.takeExpiries
  rw [hfold fun s f => hfold (fun s i => by rw [silentExpiry_frame]) _ s, hfold fun s f => by rw [stallExpiry_frame],
    hfold fun s ch => by rw [staleExpiry_frame]]

theorem levelTick_keeps (s : State) : Keeps FaceState.AfterTick s s.levelTick := by
  refine mapFaces_keeps s fun f => ?_
  split <;> exact ⟨rfl⟩

theorem takeTick_keeps (s : State) : Keeps FaceState.AfterTick s s.takeTick :=
  .ite ((levelTick_keeps s).after absorbs_afterTick (.of_eq rfl rfl rfl)) ((Keeps.refl s).keeps absorbs_afterTick)

theorem takeTick_of_not_raised {s : State} (h : s.time.tickRaised = false) : s.takeTick = s := if_neg (by simp [h])

theorem settleTime_keeps (s : State) : Keeps FaceState.AfterTick s s.settleTime :=
  (takeExpiries_keepsAll s).before absorbs_afterTick (takeTick_keeps _)

/-- With no tick raised, what time has made due is the expiries alone. -/
theorem settleTime_keepsAll {s : State} (h : s.time.tickRaised = false) : KeepsAll s s.settleTime := by
  rw [State.settleTime, takeTick_of_not_raised ((congrArg _ (takeExpiries_time s)).trans h)]
  exact takeExpiries_keepsAll s

/-- A face at a 1 ms event: its stall timer alone may differ (R66). -/
theorem ms1_face (s : State) (f : Fin 8) : s.faces[f].Same s.ms1.faces[f] := by
  have hf : s.ms1.faces[f] = { s.faces[f] with scan := { s.faces[f].scan with timer := s.faces[f].scan.timer.ms } } :=
    tabulate_get _ f
  rw [hf]
  exact ⟨rfl, rfl, rfl⟩

theorem ms1_settings (s : State) : s.ms1.settings = s.settings := rfl

theorem goodFrame_keepsAll (s : State) (ch : Fin 4) (code : Nat) (flag : Bool) :
    KeepsAll s (s.goodFrame ch code flag) := by
  refine Keeps.hand ?_ _
  exact .of_eq rfl rfl rfl

theorem badSample_keepsAll (s : State) (ch : Fin 4) : KeepsAll s (s.badSample ch) := by
  refine Keeps.hand ?_ _
  exact .of_eq rfl rfl rfl

theorem goodTile_keepsAll (s : State) (f : Fin 8) (i : Fin 32) (st : BitVec 4) (o t : Byte) :
    KeepsAll s (s.goodTile f i st o t) := by
  refine Keeps.hand ?_ _
  exact .of_eq rfl rfl rfl

theorem execRecord_keepsAll (s : State) : ∃ t, execRecord s = .next t ∧ KeepsAll s t := by
  refine ⟨_, rfl, .ite (.refl s) ?_⟩
  split
  · exact ((takeRecord_keepsAll s _).trans (modReport_keepsAll _ _)).trans (drain_keepsAll _ _)
  · exact drain_keepsAll s _

theorem execValidationFailure_keepsAll (s : State) : ∃ t, execValidationFailure s = .next t ∧ KeepsAll s t := by
  refine ⟨_, rfl, .ite (.refl s) ?_⟩
  split
  · exact setPolicy_keepsAll s rfl
  · exact .refl s

/-! ### Every command -/

/-- What a command other than the resets, the switch and the 1 ms event may do to a face. -/
def faceChangeBy : Instr → FaceState → FaceState → Prop
  | .readBeatReturn _ _ _ => FaceState.AfterRead
  | .dimmingTick => FaceState.AfterTick
  | _ => FaceState.AfterWrite

theorem faceChangeBy_factor {c : Instr} (hc : ∀ d m b, c ≠ .readBeatReturn d m b) {x y : FaceState}
    (h : faceChangeBy c x y) : y.pixel.factor = x.pixel.factor := by
  cases c with
  | readBeatReturn d m b => exact absurd rfl (hc d m b)
  | dimmingTick => exact FaceState.AfterTick.factor h
  | _ => exact FaceState.AfterWrite.factor h

theorem faceChangeBy_held {c : Instr} (hc : c ≠ .dimmingTick) {x y : FaceState} (h : faceChangeBy c x y) :
    y.level.held = x.level.held ∨ (y.level.held = 0 ∧ x.mode ≠ .dark ∧ y.mode = .dark) := by
  cases c with
  | readBeatReturn d m b => exact .inl (FaceState.AfterRead.held h)
  | dimmingTick => exact absurd rfl hc
  | _ => exact FaceState.AfterWrite.held h

/-- The command answers a next state that the relation allows. -/
def AnswersKeeping (R : FaceState → FaceState → Prop) (s : State) (o : Host.Outcome State Fault Refusal) : Prop :=
  ∃ t, o = .next t ∧ Keeps R s t

theorem answersKeeping_next {R : FaceState → FaceState → Prop} {s t : State} (h : Keeps R s t) :
    AnswersKeeping R s (.next t) := ⟨t, rfl, h⟩

theorem answersKeeping_write {s t : State} (h : KeepsAll s t) : AnswersKeeping FaceState.AfterWrite s (.next t) :=
  ⟨t, rfl, h.keeps absorbs_afterWrite⟩

theorem answersKeeping_of_exists {s : State} {o : Host.Outcome State Fault Refusal}
    (h : ∃ t, o = .next t ∧ KeepsAll s t) : AnswersKeeping FaceState.AfterWrite s o := by
  obtain ⟨t, ht, hk⟩ := h
  exact ⟨t, ht, hk.keeps absorbs_afterWrite⟩

/-- What each command keeps: all but a few keep mode, held level and factor, a write beat may enter DARK, a read return
may start a frame, and a tick may move the level. -/
theorem exec_answersKeeping (s : State) (c : Instr) (hr : isReset c = false) (hs : c ≠ .switch) (hm : c ≠ .oneMsEvent) :
    AnswersKeeping (faceChangeBy c) s (exec c s) := by
  have hb {p : State} {f : State → State} (c : BusCommand) (hf : ∀ p, KeepsAll p (f p)) :
      KeepsAll p (p.busCommand c f) := busCommand_keeps absorbs_same p c hf
  cases c with
  | powerOnReset => simp [isReset] at hr
  | resetLine => simp [isReset] at hr
  | resetRelease p => simp [isReset] at hr
  | suspend =>
    exact answersKeeping_write (.ite (((passBegun_keepsAll s _).trans (finishPosition_keepsAll _)).trans
      (setTracker_keepsAll _ _)) (.refl s))
  | resume => exact answersKeeping_write (.ite (.refl s) (setTracker_keepsAll s _))
  | openBank b r =>
    exact answersKeeping_write (hb _ fun p => (anomalyIf_keepsAll p _ 2).trans (setTracker_keepsAll _ _))
  | read b c auto =>
    exact answersKeeping_next (busCommand_keeps absorbs_afterWrite s _ fun p => takeReadCommand_keeps p b c auto)
  | write b c auto data m =>
    have hd : KeepsAll s (s.driveStore data m) := .of_eq rfl rfl rfl
    exact answersKeeping_next (hd.before absorbs_afterWrite (busCommand_keeps absorbs_afterWrite _ _ fun p =>
      takeWriteCommand_keeps p b c auto data m))
  | close b => exact answersKeeping_write (hb _ fun p => setTracker_keepsAll p _)
  | closeAll => exact answersKeeping_write (hb _ fun p => setTracker_keepsAll p _)
  | refresh => exact answersKeeping_write (hb _ takeRefresh_keepsAll)
  | sleepEnter => exact answersKeeping_write ((passBegun_keepsAll s _).trans (hb _ takeSleep_keepsAll))
  | sleepExit =>
    have hd : KeepsAll s ((s.driveCommand .sleepExit).setStore .awake) := .of_eq rfl rfl rfl
    exact answersKeeping_write (.ite (.of_eq rfl rfl rfl)
      ((hd.trans (beginPosition_keepsAll _)).trans (restartStallTimers_keepsAll _)))
  | modeLoad c => exact answersKeeping_write (hb _ fun p => takeModeLoad_keepsAll p c)
  | burstStop => exact answersKeeping_write (hb _ fun p => setTracker_keepsAll p _)
  | noOperation => exact answersKeeping_write (hb _ .refl)
  | burstBeatIssue data m => exact answersKeeping_next (burstCommand_keeps s data m _)
  | burstComplete data m => exact answersKeeping_next (burstCommand_keeps s data m _)
  | readBeatReturn data m cd =>
    exact answersKeeping_next (.ite (Keeps.keeps absorbs_afterRead (.of_eq rfl rfl rfl))
      (.ite ((untilDue_keepsAll s).before absorbs_afterRead (takeReturn_keeps _ data m cd))
        ((Keeps.refl s).keeps absorbs_afterRead)))
  | unplacedArrival data m cd =>
    exact answersKeeping_write (.ite (.of_eq rfl rfl rfl)
      (.ite ((passBegun_keepsAll s _).trans (takeUnplaced_keepsAll _ data m cd)) (.refl s)))
  | stagingWrite off data m => exact answersKeeping_next (serviceWrite_keeps s _ _ _)
  | timeWordWrite data m => exact answersKeeping_next (serviceWrite_keeps s _ _ _)
  | modeDeclaration data m => exact answersKeeping_next (serviceWrite_keeps s _ _ _)
  | commitRequest data m => exact answersKeeping_next (serviceWrite_keeps s _ _ _)
  | validationFailure => exact answersKeeping_of_exists (execValidationFailure_keepsAll s)
  | switch => exact absurd rfl hs
  | restartRequest data m => exact answersKeeping_next (serviceWrite_keeps s _ _ _)
  | monitorRestart => exact answersKeeping_write (.ite (.refl s) (restart_keepsAll s))
  | run f up m => exact answersKeeping_next (serviceWrite_keeps s _ _ _)
  | hold f up m => exact answersKeeping_next (serviceWrite_keeps s _ _ _)
  | blank f up m => exact answersKeeping_next (serviceWrite_keeps s _ _ _)
  | dark f up m => exact answersKeeping_next (serviceWrite_keeps s _ _ _)
  | release f up m => exact answersKeeping_next (serviceWrite_keeps s _ _ _)
  | oneMsEvent => exact absurd rfl hm
  | dimmingTick =>
    exact answersKeeping_next (.ite ((Keeps.refl s).keeps absorbs_afterTick) (takeTick_keeps s))
  | sensorFrameArrival n0 n1 n2 n3 n4 n5 =>
    exact answersKeeping_write (.ite (.refl s) (.ite (goodFrame_keepsAll s _ _ _) (badSample_keepsAll s _)))
  | sensorIncompleteFrame => exact answersKeeping_write (.ite (.refl s) (.of_eq rfl rfl rfl))
  | staleTimerExpiry ch => exact answersKeeping_write (.ite (.refl s) (staleExpiry_keepsAll s ch))
  | stallTimerExpiry f => exact answersKeeping_write (.ite (.refl s) (stallExpiry_keepsAll s f))
  | tileFrameArrival b0 b1 b2 b3 b4 =>
    exact answersKeeping_write (.ite (.refl s) (.ite (.of_eq rfl rfl rfl) (.ite (.of_eq rfl rfl rfl)
      (goodTile_keepsAll s _ _ _ _ _))))
  | tileIncompleteFrame => exact answersKeeping_write (.ite (.refl s) (.of_eq rfl rfl rfl))
  | silentTimerExpiry f i => exact answersKeeping_write (.ite (.refl s) (silentExpiry_keepsAll s f i))
  | record => exact answersKeeping_of_exists (execRecord_keepsAll s)
  | choice => exact answersKeeping_write (.ite (.refl s) (modReport_keepsAll s _))
  | writeEnd => exact answersKeeping_write (.ite (.refl s) (modReport_keepsAll s _))
  | acknowledgment k m => exact answersKeeping_next (serviceWrite_keeps s _ _ _)
  | slotInactive k m => exact answersKeeping_next (serviceWrite_keeps s _ _ _)
  | filterWrite k data m => exact answersKeeping_next (serviceWrite_keeps s _ _ _)
  | headerRead k => exact answersKeeping_write (reportReadBeat_keepsAll s _)
  | stampWordRead => exact answersKeeping_write (reportReadBeat_keepsAll s _)
  | reservedWrite off data m => exact answersKeeping_next (serviceWrite_keeps s _ _ _)

/-- The 1 ms event keeps the settings, and no factor or, with no tick raised, held level changes at it (R64, R94). -/
theorem exec_oneMsEvent_keeps (s : State) :
    ∃ t, exec .oneMsEvent s = .next t ∧ t.settings = s.settings ∧
      (∀ f : Fin 8, s.faces[f].AfterTick t.faces[f]) ∧
      (s.time.tickRaised = false → ∀ f : Fin 8, s.faces[f].Same t.faces[f]) := by
  refine ⟨_, rfl, ?_⟩
  split
  · exact ⟨rfl, fun _ => ⟨rfl⟩, fun _ _ => .refl _⟩
  · have hk := settleTime_keeps s
    exact ⟨(ms1_settings _).trans hk.settings, fun f => absorbs_afterTick.after (hk.face f) (ms1_face _ f),
      fun h f => ((settleTime_keepsAll h).face f).trans (ms1_face _ f)⟩

/-! ### The switch -/

/-- The state of a switch before the ends of the stalls: the tables entered and every face and tile announced (R60). -/
def State.announced (s : State) : State :=
  let new := s.policy.switched.active
  { s with
    policy := s.policy.switched
    regions := tabulate fun f => regionOf (new.face f) s.regions[f]
    faces := tabulate fun f =>
      s.faces[f].announce (faceChange s.policy.active new f) s.fallbackLevel (new.face f).sensorMask
    tiles := { s.tiles with
      entries := tabulate fun f => announceTiles (faceChange s.policy.active new f) s.tiles.entries[f] } }

/-- A switch ends the stall of face f: its record changes while it is STALLED (R134). -/
def State.switchEndsStall (s : State) (f : Fin 8) : Bool :=
  decide (faceChange s.policy.active s.policy.switched.active f = .changed) && s.faces[f].scan.state == .stalled

/-- The stalls of some faces end, in order. -/
def State.endStalls (s : State) (c : Fin 8 → Bool) (fs : List (Fin 8)) : State :=
  fs.foldl (fun t f => if c f then t.endStall f else t) s

theorem switched_eq (s : State) : s.switched = s.announced.endStalls s.switchEndsStall allFaces := by
  simp only [State.switched, State.endStalls, State.announced, State.switchEndsStall]
  rfl

/-- The end of stalls changes nothing but faces and what waits. -/
theorem endStalls_frame (c : Fin 8 → Bool) (fs : List (Fin 8)) (s : State) :
    s.endStalls c fs = { s with faces := (s.endStalls c fs).faces, inbox := (s.endStalls c fs).inbox } := by
  induction fs generalizing s with
  | nil => rfl
  | cons f fs ih =>
    have h1 : s.endStalls c (f :: fs) = (if c f then s.endStall f else s).endStalls c fs := rfl
    rw [h1, ih]
    split <;> rfl

/-- A switch leaves what the announcements leave of everything but faces and what waits. -/
theorem switched_frame (s : State) :
    s.switched = { s.announced with faces := s.switched.faces, inbox := s.switched.inbox } := by
  rw [switched_eq, endStalls_frame]

@[simp] theorem switched_policy (s : State) : s.switched.policy = s.policy.switched := by rw [switched_frame]; rfl
@[simp] theorem switched_straps (s : State) : s.switched.straps = s.straps := by rw [switched_frame]; rfl
@[simp] theorem switched_inReset (s : State) : s.switched.inReset = s.inReset := by rw [switched_frame]; rfl
@[simp] theorem switched_time (s : State) : s.switched.time = s.time := by rw [switched_frame]; rfl
@[simp] theorem switched_region (s : State) (f : Fin 8) :
    s.switched.regions[f] = regionOf (s.policy.switched.active.face f) s.regions[f] := by
  rw [switched_frame]; exact tabulate_get _ f

/-! ### The active tables (R27, R59) -/

/-- The default tables pass commit validation wherever the service area stands: they enable no face (R63). -/
theorem defaultTables_validate (base : Nat) : defaultTables.validate base = none := by
  have hface : ∀ f : Fin 8, defaultTables.checkFace base f = none := fun f => by
    have he : (defaultTables.face f).enabled = false := by simp [Tables.face, defaultTables]
    simp [Tables.checkFace, he]
  have hF : firstFailure (defaultTables.checkFace base) allFaces = none := by simp [allFaces, firstFailure, hface]
  have hrest : defaultTables.validate 0 = none := by decide +kernel
  have hF0 : firstFailure (defaultTables.checkFace 0) allFaces = none := by decide +kernel
  simp only [Tables.validate, hF, hF0] at hrest ⊢
  exact hrest

/-- The region table of a switch is section F of the tables that enter (R27). -/
theorem regionOf_ok (r : FaceRecord) (old : Region) :
    (regionOf r old).configured = r.enabled ∧
      (r.enabled = true → regionOf r old =
        { configured := true, baseA := r.baseA, baseB := r.baseB, width := r.width, height := r.height
          stride := r.stride }) := by
  cases h : r.enabled <;> simp [regionOf, h]

theorem held_policyOk (p : Option Straps) (bus : BusOut) (n : Nat) (cs : List Instr) :
    (State.held p bus n cs).PolicyOk :=
  ⟨fun p _ => defaultTables_validate (Config.serviceBase p), fun _ => ⟨rfl, rfl⟩, reset_policyOk.2.2⟩

theorem released_policyOk (p : Straps) (bus : BusOut) (n : Nat) (cs : List Instr) :
    State.PolicyOk { State.held (some p) bus n cs with inReset := false } :=
  ⟨fun p _ => defaultTables_validate (Config.serviceBase p), fun h => (nomatch h), reset_policyOk.2.2⟩

theorem switched_policyOk {s : State} (h : s.PolicyOk) (hr : s.inReset = false) (hc : s.commitFailure = none) :
    s.switched.PolicyOk := by
  obtain ⟨-, hnone, -⟩ := h
  refine ⟨fun p hp => ?_, fun hp => ?_, fun f => ?_⟩
  · rw [switched_straps] at hp
    have himg : s.strapImage = p := by rw [State.strapImage, Option.mem_def.mp hp]; rfl
    rw [State.commitFailure, himg] at hc
    rw [switched_policy]
    exact hc
  · rw [switched_straps] at hp
    simp [(hnone hp).1] at hr
  · unfold State.RegionOk
    simp only [switched_policy, switched_region]
    exact regionOf_ok _ _

/-- Out of reset the same settings are as valid. -/
theorem PolicyOk.of_settings {s t : State} (h : s.PolicyOk) (hr : s.inReset = false) (hk : t.settings = s.settings) :
    t.PolicyOk := by
  obtain ⟨hvalid, hnone, hregion⟩ := h
  obtain ⟨-, hstraps, hactive, hregions⟩ := settings_eq_iff.mp hk
  refine ⟨fun p hp => ?_, fun hp => ?_, fun f => ?_⟩
  · rw [hactive]; exact hvalid p (hstraps ▸ hp)
  · simp [(hnone (hstraps ▸ hp)).1] at hr
  · simp only [State.RegionOk, hactive, hregions]; exact hregion f

theorem clockCycle_settings (s : State) : s.clockCycle.settings = s.settings := by
  have hk := (settleTime_keeps s).settings
  unfold State.clockCycle
  split
  · rfl
  · generalize s.settleTime = u at hk
    simp only []
    split
    · exact hk
    · exact (ms1_settings u).trans hk

theorem exec_keeps_policyOk {s t : State} {c : Instr} (h : s.PolicyOk) (he : exec c s = .next t) : t.PolicyOk := by
  cases hc : isReset c with
  | true =>
    cases c <;> simp only [isReset, Bool.false_eq_true] at hc
    case powerOnReset => cases he; exact held_policyOk _ _ _ _
    case resetLine => cases he; exact held_policyOk _ _ _ _
    case resetRelease p =>
      cases he
      split
      · exact released_policyOk p _ _ _
      · exact h
  | false =>
    cases hr : s.inReset with
    | true =>
      obtain ⟨u, hu, heq⟩ := exec_in_reset hr hc
      rw [hu] at he
      cases he
      rw [heq]
      exact h
    | false =>
      by_cases hs : c = .switch
      · subst hs
        cases he
        split
        · exact h
        · rename_i hno
          simp only [Bool.or_eq_true, not_or, Option.not_isSome_iff_eq_none] at hno
          exact switched_policyOk h hr hno.2
      · by_cases hm : c = .oneMsEvent
        · subst hm
          obtain ⟨u, hu, hk, -⟩ := exec_oneMsEvent_keeps s
          rw [hu] at he
          cases he
          exact PolicyOk.of_settings h hr hk
        · obtain ⟨u, hu, hk⟩ := exec_answersKeeping s c hc hs hm
          rw [hu] at he
          cases he
          exact PolicyOk.of_settings h hr hk.settings

/-- Settles O39: a switch enters a validated set with its section F as the region table, a reset enters the default
tables, and nothing else changes either. -/
theorem stepKeepsTheActiveTablesValid : Obligations.StepKeepsTheActiveTablesValid := by
  intro s t h he
  unfold step at he
  split at he
  · cases he
    cases hr : s.inReset with
    | true => rw [State.clockCycle, if_pos hr]; exact h
    | false => exact PolicyOk.of_settings h hr (clockCycle_settings s)
  · exact exec_keeps_policyOk (by exact h) he

/-- Settles O60: each command keeps what `faceChangeBy` says it keeps, and the switch and the 1 ms event are apart. -/
theorem onlyTheNamedEventsChange : Obligations.OnlyTheNamedEventsChange := by
  intro s t c he hc
  by_cases hs : c = .switch
  · subst hs
    have ht : t = s ∨ t = s.switched := by
      cases he
      split
      · exact .inl rfl
      · exact .inr rfl
    rcases ht with rfl | rfl <;> simp
  by_cases hm : c = .oneMsEvent
  · subst hm
    obtain ⟨u, hu, hk, hfactor, hheld⟩ := exec_oneMsEvent_keeps s
    obtain rfl : u = t := by rw [hu] at he; injection he
    obtain ⟨hreset, hstraps, hactive, hregions⟩ := settings_eq_iff.mp hk
    exact ⟨hstraps, hreset, fun h => absurd rfl h, fun _ => ⟨hactive, hregions⟩, fun _ _ f => (hfactor f).factor,
      fun _ _ h f => .inl (hheld (h.resolve_left fun h => h rfl) f).held⟩
  obtain ⟨u, hu, hk⟩ := exec_answersKeeping s c hc hs hm
  obtain rfl : u = t := by rw [hu] at he; injection he
  obtain ⟨hreset, hstraps, hactive, hregions⟩ := settings_eq_iff.mp hk.settings
  refine ⟨hstraps, hreset, fun _ => clock_eq_iff.mp hk.clock, fun _ => ⟨hactive, hregions⟩, fun _ hread f => ?_,
    fun _ htick _ f => ?_⟩
  · exact faceChangeBy_factor hread (hk.face f)
  · exact faceChangeBy_held htick (hk.face f)

end Sys2Proof.Machine
end

section
/-! SUPPORT. The announcements of a switch (R60, R134, R144, R151, R156): the faces, the tiles and what waits. -/

namespace Sys2Proof.Machine

/-! ### What is put behind the elements of a list -/

/-- A list with more put behind each element, by the element and those that follow it. -/
def putBehindEach {α : Type} (more : α → List α → List α) : List α → List α
  | [] => []
  | n :: back => n :: (more n back ++ putBehindEach more back)

/-- The same, said of the tails of the list. -/
theorem flatMap_tails {α : Type} {F : List α → List α} {more : α → List α → List α} (hnil : F [] = [])
    (hcons : ∀ n back, F (n :: back) = n :: more n back) (l : List α) : l.tails.flatMap F = putBehindEach more l := by
  induction l with
  | nil => simp [hnil, putBehindEach]
  | cons n back ih => simp [hcons, putBehindEach, ih]

/-- What stands in front and is not picked stays in front. -/
theorem putBehindLast_append {α : Type} {p : α → Bool} {x : α} {a : List α} (b : List α) (h : ∀ y ∈ a, p y = false) :
    putBehindLast p x (a ++ b) = a ++ putBehindLast p x b := by
  induction a with
  | nil => rfl
  | cons y a ih =>
    obtain ⟨hy, ha⟩ := List.forall_mem_cons.mp h
    have hany : (a ++ b).any p = b.any p := by
      rw [List.any_append, List.any_eq_false.mpr fun z hz => by simp [ha z hz], Bool.false_or]
    rw [List.cons_append, putBehindLast, hany, ih ha]
    cases hb : b.any p with
    | true => rfl
    | false =>
      have hnone : ∀ z ∈ b, p z = false := fun z hz => by simpa using List.any_eq_false.mp hb z hz
      simp [hy, putBehindLast_of_none hnone]

/-! ### The ends of stalls -/

/-- The key of a face's SCAN STALL is class 1, that face and kind 1 (12.5). -/
theorem isStallOnset_record (f : Fin 8) (r : Record) :
    Notice.isStallOnset f (.record r) = (r.key.toNat == 8193 + 32 * f.val && r.event == .onset) := by
  have hkey : (recordKey .face f.val clsScanStall).toNat = 8193 + 32 * f.val := by
    simp only [recordKey, clsScanStall, SourceKind.code, BitVec.toNat_ofNat]
    omega
  have hiff : (r.key == recordKey .face f.val clsScanStall) = (r.key.toNat == 8193 + 32 * f.val) := by
    rw [Bool.eq_iff_iff, beq_iff_eq, beq_iff_eq, ← hkey]
    exact BitVec.toNat_inj.symm
  rw [Notice.isStallOnset, hiff]

/-- An onset is of one face alone. -/
theorem isStallOnset_unique {f g : Fin 8} {n : Notice} (hf : n.isStallOnset f = true) (hg : n.isStallOnset g = true) :
    f = g := by
  cases n with
  | record r =>
    rw [isStallOnset_record, Bool.and_eq_true, beq_iff_eq] at hf hg
    omega
  | completion k => simp [Notice.isStallOnset] at hf
  | stallEnded k => simp [Notice.isStallOnset] at hf

/-- The ends put behind a notice: of those stalls, among some faces, whose last waiting onset it is (log 7). -/
def stallEnds (c : Fin 8 → Bool) (fs : List (Fin 8)) (n : Notice) (back : List Notice) : List Notice :=
  (fs.filter fun g => c g && n.isStallOnset g && !back.any (Notice.isStallOnset g)).map .stallEnded

theorem stallEnds_not_onset (c : Fin 8 → Bool) (fs : List (Fin 8)) (n : Notice) (back : List Notice) (g : Fin 8) :
    ∀ y ∈ stallEnds c fs n back, y.isStallOnset g = false := by
  intro y hy
  obtain ⟨k, -, rfl⟩ := List.mem_map.mp hy
  rfl

theorem stallEnds_append (c : Fin 8 → Bool) (fs : List (Fin 8)) (g : Fin 8) (n : Notice) (back : List Notice) :
    stallEnds c (fs ++ [g]) n back = stallEnds c fs n back ++ stallEnds c [g] n back := by
  simp [stallEnds]

theorem stallEnds_singleton (c : Fin 8 → Bool) (g : Fin 8) (n : Notice) (back : List Notice) :
    stallEnds c [g] n back =
      if c g && n.isStallOnset g && !back.any (Notice.isStallOnset g) then [.stallEnded g] else [] := by
  unfold stallEnds
  rw [List.filter_singleton]
  cases c g && n.isStallOnset g && !back.any (Notice.isStallOnset g) <;> rfl

/-- The ends of stalls put no onset anywhere. -/
theorem any_isStallOnset_putBehindEach (c : Fin 8 → Bool) (fs : List (Fin 8)) (g : Fin 8) (l : List Notice) :
    (putBehindEach (stallEnds c fs) l).any (Notice.isStallOnset g) = l.any (Notice.isStallOnset g) := by
  induction l with
  | nil => rfl
  | cons n back ih =>
    have hends : (stallEnds c fs n back).any (Notice.isStallOnset g) = false :=
      List.any_eq_false.mpr fun y hy => by simp [stallEnds_not_onset c fs n back g y hy]
    simp only [putBehindEach, List.any_cons, List.any_append, ih, hends, Bool.false_or]

theorem putBehindEach_no_ends (c : Fin 8 → Bool) (l : List Notice) : putBehindEach (stallEnds c []) l = l := by
  induction l with
  | nil => rfl
  | cons n back ih => exact congrArg _ ih

/-- The end of one more stall. -/
theorem putBehindLast_putBehindEach (c : Fin 8 → Bool) {fs : List (Fin 8)} {g : Fin 8} (hg : g ∉ fs) (hc : c g = true)
    (l : List Notice) :
    putBehindLast (Notice.isStallOnset g) (.stallEnded g) (putBehindEach (stallEnds c fs) l) =
      putBehindEach (stallEnds c (fs ++ [g])) l := by
  induction l with
  | nil => rfl
  | cons n back ih =>
    have hends := stallEnds_not_onset c fs n back g
    have hany : (stallEnds c fs n back ++ putBehindEach (stallEnds c fs) back).any (Notice.isStallOnset g) =
        back.any (Notice.isStallOnset g) := by
      rw [List.any_append, List.any_eq_false.mpr fun y hy => by simp [hends y hy], Bool.false_or,
        any_isStallOnset_putBehindEach]
    simp only [putBehindEach, stallEnds_append, stallEnds_singleton, hc, putBehindLast, hany,
      putBehindLast_append _ hends]
    cases hb : back.any (Notice.isStallOnset g) with
    | true => simp [ih]
    | false =>
      have hnone : ∀ y ∈ putBehindEach (stallEnds c fs) back, y.isStallOnset g = false := fun y hy => by
        have h := any_isStallOnset_putBehindEach c fs g back
        rw [hb] at h
        simpa using List.any_eq_false.mp h y hy
      rw [← ih, putBehindLast_of_none hnone]
      cases hn : n.isStallOnset g with
      | false => simp
      | true =>
        have hnil : stallEnds c fs n back = [] := by
          refine List.map_eq_nil_iff.mpr (List.filter_eq_nil_iff.mpr fun k hk => ?_)
          cases hkn : n.isStallOnset k with
          | false => simp
          | true => exact absurd (isStallOnset_unique hkn hn ▸ hk) hg
        simp [hnil]

/-- What waits after the ends of stalls of distinct faces. -/
theorem endStalls_inbox (c : Fin 8 → Bool) (l : List Notice) (fs : List (Fin 8)) :
    ∀ (s : State) (done : List (Fin 8)), (done ++ fs).Nodup → s.inbox = putBehindEach (stallEnds c done) l →
      (s.endStalls c fs).inbox = putBehindEach (stallEnds c (done ++ fs)) l := by
  induction fs with
  | nil => exact fun s done _ h => by rw [List.append_nil]; exact h
  | cons g fs ih =>
    intro s done hd h
    have hsplit : done ++ g :: fs = (done ++ [g]) ++ fs := by simp
    have hg : g ∉ done := fun hm => (List.nodup_append.mp hd).2.2 g hm g List.mem_cons_self rfl
    rw [hsplit] at hd ⊢
    refine ih (if c g then s.endStall g else s) (done ++ [g]) hd ?_
    cases hc : c g with
    | true =>
      rw [if_pos rfl, State.endStall_inbox, h]
      exact putBehindLast_putBehindEach c hg hc l
    | false =>
      have hends : stallEnds c (done ++ [g]) = stallEnds c done := by
        funext n back
        rw [stallEnds_append, stallEnds_singleton]
        simp [hc]
      rw [hends]
      exact h

/-- The records that wait are those that waited. -/
theorem endStalls_records (c : Fin 8 → Bool) (fs : List (Fin 8)) (s : State) :
    (s.endStalls c fs).inbox.filter Notice.isRecord = s.inbox.filter Notice.isRecord := by
  induction fs generalizing s with
  | nil => rfl
  | cons g fs ih =>
    refine (ih (if c g then s.endStall g else s)).trans ?_
    cases c g with
    | true => exact putBehindLast_filter _ _ _ _ rfl
    | false => rfl

/-- A face whose SCAN STALL condition has ended (R151). -/
def FaceState.stallEnded (x : FaceState) (f : Fin 8) : FaceState :=
  { x with causes := x.causes.ended clsScanStall f.val }

theorem endStall_faces_get (s : State) (f g : Fin 8) :
    (s.endStall g).faces[f] = if g = f then s.faces[f].stallEnded f else s.faces[f] := by
  rw [State.endStall_faces]
  by_cases h : g = f
  · subst h; simp [FaceState.stallEnded]
  · have hv : g.val ≠ f.val := fun hv => h (Fin.ext hv)
    simp [h, hv]

/-- A face after the ends of stalls of distinct faces. -/
theorem endStalls_face (c : Fin 8 → Bool) (f : Fin 8) (fs : List (Fin 8)) (s : State) (hd : fs.Nodup) :
    (s.endStalls c fs).faces[f] = if f ∈ fs ∧ c f = true then s.faces[f].stallEnded f else s.faces[f] := by
  induction fs generalizing s with
  | nil => rfl
  | cons g fs ih =>
    obtain ⟨hg, hd⟩ := List.nodup_cons.mp hd
    have hstep : (if c g then s.endStall g else s).faces[f] =
        if g = f ∧ c g = true then s.faces[f].stallEnded f else s.faces[f] := by
      cases c g with
      | true => rw [if_pos rfl, endStall_faces_get]; simp only [and_true]
      | false => simp
    refine (ih (if c g then s.endStall g else s) hd).trans ?_
    rw [hstep]
    by_cases h : g = f
    · subst h; simp [hg]
    · simp [h, Ne.symm h]

/-! ### The announcement of a face (R60) -/

theorem faceChange_configured {old new : Tables} {f : Fin 8} (ho : (old.face f).enabled = false)
    (hn : (new.face f).enabled = true) : faceChange old new f = .configured := by simp only [faceChange, ho, hn]

theorem faceChange_unconfigured {old new : Tables} {f : Fin 8} (ho : (old.face f).enabled = true)
    (hn : (new.face f).enabled = false) : faceChange old new f = .unconfigured := by simp only [faceChange, ho, hn]

theorem faceChange_changed_iff {old new : Tables} {f : Fin 8} :
    faceChange old new f = .changed ↔
      (old.face f).enabled = true ∧ (new.face f).enabled = true ∧ new.face f ≠ old.face f := by
  unfold faceChange
  cases (old.face f).enabled <;> cases (new.face f).enabled <;> simp [eq_comm]

theorem faceChange_none {old new : Tables} {f : Fin 8}
    (h : new.face f = old.face f ∨ ((old.face f).enabled = false ∧ (new.face f).enabled = false)) :
    faceChange old new f = .none := by
  unfold faceChange
  rcases h with h | ⟨ho, hn⟩
  · rw [h]
    cases (old.face f).enabled <;> simp
  · simp [ho, hn]

/-- A face after a switch: announced, and then its stall ended where it was STALLED and its record changed. -/
theorem switched_face (s : State) (f : Fin 8) :
    s.switched.faces[f] =
      let x := s.faces[f].announce (faceChange s.policy.active s.policy.switched.active f) s.fallbackLevel
        (s.policy.switched.active.face f).sensorMask
      if faceChange s.policy.active s.policy.switched.active f = .changed ∧ s.faces[f].scan.state = .stalled then
        x.stallEnded f else x := by
  have hall : allFaces.Nodup := by decide
  have hmem : f ∈ allFaces := by revert f; decide
  have hann : s.announced.faces[f] = s.faces[f].announce (faceChange s.policy.active s.policy.switched.active f)
      s.fallbackLevel (s.policy.switched.active.face f).sensorMask := tabulate_get _ f
  rw [switched_eq, endStalls_face _ f _ _ hall, hann]
  simp [hmem, State.switchEndsStall]

theorem switched_tiles (s : State) (f : Fin 8) :
    s.switched.tiles.entries[f] =
      announceTiles (faceChange s.policy.active s.policy.switched.active f) s.tiles.entries[f] := by
  rw [switched_frame]
  exact tabulate_get _ f

/-- Where a record stays, or stays not enabled, a switch leaves the face and its tiles. -/
theorem switched_of_none {s : State} {f : Fin 8}
    (h : faceChange s.policy.active s.policy.switched.active f = .none) :
    s.switched.faces[f] = s.faces[f] ∧ s.switched.tiles.entries[f] = s.tiles.entries[f] := by
  rw [switched_face, switched_tiles, h]
  exact ⟨by simp [FaceState.announce], rfl⟩

theorem clearedTiles_get (i : Fin 32) : clearedTiles[i].Cleared := by
  rw [clearedTiles, tabulate_get]
  decide

/-- The channel causes lose their conditions where the new mask does not hold their channel (R156). -/
theorem dropChannels_eq (mask : BitVec 4) (cs : List Cause) :
    dropChannels mask cs =
      cs.map fun c => if c.cls ∈ [8, 9, 10] ∧ mask.getLsbD c.src = false then { c with cond := false } else c := by
  refine List.map_congr_left fun c _ => ?_
  simp [or_assoc]

/-- The causes of a changed STALLED face whose conditions a switch ends (R151, R156). -/
theorem setCond_dropChannels (mask : BitVec 4) (f : Fin 8) (cs : List Cause) :
    setCond (dropChannels mask cs) clsScanStall f.val false =
      cs.map fun c =>
        if c.cls ∈ [8, 9, 10] ∧ mask.getLsbD c.src = false ∨ c.cls = 1 ∧ c.src = f.val then { c with cond := false }
        else c := by
  rw [dropChannels_eq, setCond, List.map_map]
  refine List.map_congr_left fun c _ => ?_
  by_cases hm : c.cls ∈ [8, 9, 10] ∧ mask.getLsbD c.src = false <;>
    simp only [Function.comp_apply, hm, if_false, false_or, Cause.is, clsScanStall, Bool.and_eq_true, beq_iff_eq]
  exact ite_self _

/-- Settles O34: each face is announced as its two records say, and the ends of stalls are put behind their onsets. -/
theorem switchAnnouncements : Obligations.SwitchAnnouncements := by
  intro s p f hr hp hfl hok hc
  refine ⟨s.switched, congrArg _ (if_neg (by simp [hr, Policy.inFlight, hfl, hc])), ?_⟩
  obtain ⟨-, -, hregion⟩ := hok
  have hcfg : ∀ g : Fin 8, s.configured g = (s.policy.active.face g).enabled := fun g => (hregion g).1
  have hfallback : s.fallbackLevel = Config.fallbackLevel p := by simp [State.fallbackLevel, State.strapImage, hp]
  rw [switched_policy]
  intro y r waits ended ends
  have hwaits : waits = Notice.isStallOnset := by
    funext g n
    cases n with
    | record q => exact (isStallOnset_record g q).symm
    | completion k => rfl
    | stallEnded k => rfl
  have hended : ended = s.switchEndsStall := by
    funext g
    rw [Bool.eq_iff_iff]
    simp [ended, State.switchEndsStall, hcfg, faceChange_changed_iff, and_assoc]
  refine ⟨?_, fun hf he => ?_, fun hf he => ?_, fun hf he hne => ?_, fun h => ?_, ?_, ?_⟩
  · rw [State.configured, switched_region]
    exact (regionOf_ok _ _).1
  · have hch := faceChange_configured (hcfg f ▸ hf) he
    refine ⟨?_, fun i => ?_⟩
    · rw [switched_face, hch, hfallback]
      rfl
    · rw [switched_tiles, hch]
      exact clearedTiles_get i
  · have hch := faceChange_unconfigured (hcfg f ▸ hf) he
    have hface : s.switched.faces[f] = y.announce .unconfigured s.fallbackLevel r.sensorMask := by
      rw [switched_face, hch]
      rfl
    have hcfg' : s.switched.configured f = false := by
      rw [State.configured, switched_region]
      exact (regionOf_ok _ _).1.trans he
    rw [hface]
    refine ⟨by simp [State.shownMode, hcfg'], rfl, rfl, rfl, rfl, fun i => ?_⟩
    rw [switched_tiles, hch]
    exact clearedTiles_get i
  · have hch := faceChange_changed_iff.mpr ⟨hcfg f ▸ hf, he, hne⟩
    refine ⟨?_, ?_⟩
    · rw [switched_region]
      exact (regionOf_ok _ _).2 he
    · rw [switched_tiles, switched_face, hch]
      by_cases hstall : y.scan.state = .stalled
      · simp only [true_and]
        rw [if_pos hstall]
        refine ⟨rfl, rfl, rfl, rfl, rfl, rfl, ?_, ?_⟩ <;> simp only [ends, hstall, true_and]
        · exact setCond_dropChannels _ f _
        · exact setCond_dropChannels _ f _
      · simp only [true_and]
        rw [if_neg hstall]
        refine ⟨rfl, rfl, rfl, rfl, rfl, rfl, ?_, ?_⟩ <;> simp only [ends, hstall, false_and, or_false]
        · exact dropChannels_eq _ _
        · exact dropChannels_eq _ _
  · exact switched_of_none (faceChange_none (h.imp_right fun h => ⟨hcfg f ▸ h.1, h.2⟩))
  · rw [switched_eq]
    exact endStalls_records _ _ _
  · have hin := endStalls_inbox s.switchEndsStall s.inbox allFaces s.announced [] (by decide)
      (putBehindEach_no_ends _ _).symm
    rw [switched_eq, hin, hended, hwaits]
    exact (flatMap_tails rfl (fun n back => rfl) _).symm

end Sys2Proof.Machine
end

section
/-! SUPPORT. The class of a word address: validated buffers are apart, so one class at most claims a word (R24, R29 to
R33, R56). -/

namespace Sys2Proof.Machine

/-! ### What validation says of section F (R56) -/

theorem firstFailure_eq_none {α : Type} {check : α → Option Reason} {l : List α} :
    firstFailure check l = none ↔ ∀ x ∈ l, check x = none := by
  induction l with
  | nil => simp [firstFailure]
  | cons x l ih =>
    cases h : check x <;> simp [firstFailure, h, ih]

theorem mem_allFaces (f : Fin 8) : f ∈ allFaces := by revert f; decide

theorem checkFace_of_validate {t : Tables} {base : Nat} (h : t.validate base = none) (f : Fin 8) :
    t.checkFace base f = none := by
  rw [Tables.validate, Option.or_eq_none_iff, inSection, Option.map_eq_none_iff] at h
  exact firstFailure_eq_none.mp h.1 f (mem_allFaces f)

/-- An enabled record that passes its checks: its buffers are apart from each other, from those of the enabled records
below it and from the service area. -/
theorem checkFace_apart {t : Tables} {base : Nat} {f : Fin 8} (h : t.checkFace base f = none)
    (he : (t.face f).enabled = true) :
    (t.face f).selfApart = true ∧ (∀ g < f, (t.face g).enabled = true → (t.face f).apart (t.face g) = true) ∧
      ∀ e ∈ (t.face f).extents, overlap e (base, 4096) = false := by
  have hno {b : Bool} {r : Reason} {x : Option Reason} (h : (if !b then some r else x) = none) : b = true ∧ x = none := by
    cases b <;> simp_all
  rw [Tables.checkFace] at h
  simp only [he, Bool.not_true, Bool.false_eq_true, if_false] at h
  obtain ⟨-, h⟩ := hno h
  obtain ⟨hapart, h⟩ := hno h
  obtain ⟨hservice, -⟩ := hno h
  obtain ⟨hself, hlower⟩ := Bool.and_eq_true_iff.mp hapart
  refine ⟨hself, fun g hg hge => List.all_eq_true.mp hlower _ ?_, fun e hm => ?_⟩
  · refine List.mem_filter.mpr ⟨List.mem_map.mpr ⟨g, List.mem_filter.mpr ⟨mem_allFaces g, by simpa using hg⟩, rfl⟩, hge⟩
  · simpa using List.all_eq_true.mp hservice e hm

/-! ### The buffers of a face -/

/-- The first words of a face's buffers (2.3). -/
def Region.bases (r : Region) : List Nat := r.baseA :: r.baseB.toList

theorem Region.baseB_mem_bases {r : Region} {b : Nat} (h : r.baseB = some b) : b ∈ r.bases := by
  simp [Region.bases, h]

/-- The buffer at a base holds the word. -/
abbrev Region.Holds (r : Region) (base w : Nat) : Prop := base ≤ w ∧ w < base + r.height * r.stride

/-- A word in two extents is a word in common. -/
theorem overlap_of_mem {a b : Nat × Nat} {w : Nat} (ha : a.1 ≤ w ∧ w < a.1 + a.2) (hb : b.1 ≤ w ∧ w < b.1 + b.2) :
    overlap a b = true := by
  simp only [overlap, Bool.and_eq_true, decide_eq_true_eq]
  omega

/-- A configured face's region is its active record's geometry, and that record is enabled. -/
theorem PolicyOk.region {s : State} (hok : s.PolicyOk) {f : Fin 8} (hf : s.configured f = true) :
    (s.policy.active.face f).enabled = true ∧
      ∀ base ∈ s.regions[f].bases, (base, s.regions[f].height * s.regions[f].stride) ∈
        (s.policy.active.face f).extents := by
  obtain ⟨hcfg, hgeo⟩ := hok.2.2 f
  have he : (s.policy.active.face f).enabled = true := hcfg ▸ hf
  refine ⟨he, fun base hb => ?_⟩
  rw [hgeo he] at hb ⊢
  rcases List.mem_cons.mp hb with rfl | hb
  · exact List.mem_cons_self
  · refine List.mem_cons_of_mem _ ?_
    simp only [Option.mem_toList] at hb
    simp [Option.mem_def.mp hb]

/-- No word lies in buffers of two configured faces. -/
theorem PolicyOk.faces_apart {s : State} {p : Straps} (hp : s.straps = some p) (hok : s.PolicyOk) {f g : Fin 8}
    (hf : s.configured f = true) (hg : s.configured g = true) {a b w : Nat} (ha : a ∈ s.regions[f].bases)
    (hb : b ∈ s.regions[g].bases) (hwa : s.regions[f].Holds a w) (hwb : s.regions[g].Holds b w) : f = g := by
  have happly {f g : Fin 8} (hf : s.configured f = true) (hg : s.configured g = true) {a b : Nat}
      (ha : a ∈ s.regions[f].bases) (hb : b ∈ s.regions[g].bases) (hwa : s.regions[f].Holds a w)
      (hwb : s.regions[g].Holds b w) : ¬ g < f := by
    intro hlt
    obtain ⟨hfe, hfx⟩ := PolicyOk.region hok hf
    obtain ⟨hge, hgx⟩ := PolicyOk.region hok hg
    obtain ⟨-, hapart, -⟩ := checkFace_apart (checkFace_of_validate (hok.1 p hp) f) hfe
    have h := List.all_eq_true.mp (List.all_eq_true.mp (hapart g hlt hge) _ (hfx a ha)) _ (hgx b hb)
    rw [overlap_of_mem hwa hwb] at h
    simp at h
  rcases lt_trichotomy f g with h | h | h
  · exact absurd h (happly hg hf hb ha hwb hwa)
  · exact h
  · exact absurd h (happly hf hg ha hb hwa hwb)

/-- No word lies in both buffers of a configured face. -/
theorem PolicyOk.buffers_apart {s : State} {p : Straps} (hp : s.straps = some p) (hok : s.PolicyOk) {f : Fin 8}
    (hf : s.configured f = true) {b w : Nat} (hb : s.regions[f].baseB = some b) (hwb : s.regions[f].Holds b w) :
    ¬ s.regions[f].Holds s.regions[f].baseA w := by
  intro hwa
  obtain ⟨he, -⟩ := PolicyOk.region hok hf
  obtain ⟨hself, -⟩ := checkFace_apart (checkFace_of_validate (hok.1 p hp) f) he
  rw [(hok.2.2 f).2 he] at hb hwa hwb
  dsimp only at hb
  rw [FaceRecord.selfApart, hb] at hself
  have h := overlap_of_mem (a := (b, _)) (b := (_, _)) hwb hwa
  dsimp only at hself h
  rw [h] at hself
  simp at hself

/-- No word of a configured face's buffer lies in the service area. -/
theorem PolicyOk.service_apart {s : State} {p : Straps} (hp : s.straps = some p) (hok : s.PolicyOk) {f : Fin 8}
    (hf : s.configured f = true) {a w : Nat} (ha : a ∈ s.regions[f].bases) (hwa : s.regions[f].Holds a w) :
    w < Config.serviceBase p ∨ Config.serviceBase p + 4096 ≤ w := by
  by_contra hno
  obtain ⟨he, hx⟩ := PolicyOk.region hok hf
  obtain ⟨-, -, hservice⟩ := checkFace_apart (checkFace_of_validate (hok.1 p hp) f) he
  have h := overlap_of_mem (a := (a, _)) (b := (Config.serviceBase p, 4096)) hwa ⟨by omega, by omega⟩
  rw [hservice _ (hx a ha)] at h
  simp at h

/-! ### The class of a word -/

theorem inBuffer_of_holds {r : Region} {base w : Nat} (f : Fin 8) (b : Buffer) (h : r.Holds base w) :
    inBuffer f r b base w =
      some (if (w - base) % r.stride < r.width then
          .pixel f b ((w - base) % r.stride) ((w - base) / r.stride)
            (zoneOf r ((w - base) % r.stride) ((w - base) / r.stride))
        else .padding f b) := by
  refine if_pos ?_
  simp only [Bool.and_eq_true, decide_eq_true_eq]
  omega

theorem inBuffer_of_not_holds {r : Region} {base w : Nat} (f : Fin 8) (b : Buffer) (h : ¬ r.Holds base w) :
    inBuffer f r b base w = none := by
  refine if_neg ?_
  simp only [Bool.and_eq_true, decide_eq_true_eq]
  omega

/-- A face none of whose buffers holds the word. -/
theorem inFace_of_not_holds {r : Region} {w : Nat} (f : Fin 8)
    (h : r.configured = true → ∀ base ∈ r.bases, ¬ r.Holds base w) : inFace f r w = none := by
  cases hc : r.configured with
  | false => simp [inFace, hc]
  | true =>
    have hA := inBuffer_of_not_holds f .A (h hc r.baseA List.mem_cons_self)
    have hB : (r.baseB.bind fun b => inBuffer f r .B b w) = none := by
      cases hb : r.baseB with
      | none => rfl
      | some b => exact inBuffer_of_not_holds f .B (h hc b (Region.baseB_mem_bases hb))
    rw [inFace, hA, hB, Option.or_none, ite_self]

/-- No face holds the word. -/
theorem inFaces_of_none {s : State} {w : Nat} {fs : List (Fin 8)} (h : ∀ g ∈ fs, inFace g s.regions[g] w = none) :
    s.inFaces w fs = none := by
  induction fs with
  | nil => rfl
  | cons g fs ih =>
    obtain ⟨hg, hfs⟩ := List.forall_mem_cons.mp h
    simp only [State.inFaces, hg, ih hfs]

/-- One face alone holds the word. -/
theorem inFaces_of_only {s : State} {w : Nat} {f : Fin 8} {fs : List (Fin 8)} (hf : f ∈ fs)
    (h : ∀ g ∈ fs, g ≠ f → inFace g s.regions[g] w = none) : s.inFaces w fs = inFace f s.regions[f] w := by
  induction fs with
  | nil => simp at hf
  | cons g fs ih =>
    obtain ⟨hg, hfs⟩ := List.forall_mem_cons.mp h
    by_cases hgf : g = f
    · subst hgf
      cases hin : inFace g s.regions[g] w with
      | some c => simp only [State.inFaces, hin]
      | none =>
        have hnone : ∀ k ∈ g :: fs, inFace k s.regions[k] w = none := fun k hk => by
          by_cases hkg : k = g
          · rw [hkg]; exact hin
          · exact h k hk hkg
        exact inFaces_of_none hnone
    · simp only [State.inFaces, hg hgf]
      exact ih ((List.mem_cons.mp hf).resolve_left (Ne.symm hgf)) hfs

/-- A word of the service area, page by page (R24, R30). -/
theorem classify_service {s : State} {p : Straps} (hp : s.straps = some p) {off : Nat} (h : off < 4096) :
    s.classify (some (Config.serviceBase p + off)) =
      if off < 2048 then .policy off else .report (off - 2048) := by
  have himg : s.strapImage = p := by simp [State.strapImage, hp]
  rw [State.classify, himg]
  simp only [Nat.add_sub_cancel_left]
  rw [if_pos]
  simp only [Bool.and_eq_true, decide_eq_true_eq]
  omega

/-- A word outside the service area has the class that the faces give it. -/
theorem classify_outside {s : State} {p : Straps} (hp : s.straps = some p) {w : Nat}
    (h : w < Config.serviceBase p ∨ Config.serviceBase p + 4096 ≤ w) :
    s.classify (some w) = (s.inFaces w allFaces).getD (.other s.isConfigured) := by
  have himg : s.strapImage = p := by simp [State.strapImage, hp]
  rw [State.classify, himg]
  refine if_neg ?_
  simp only [Bool.and_eq_true, decide_eq_true_eq]
  omega

/-- A word of a configured face's buffer has the class that the face gives it. -/
theorem classify_of_holds {s : State} {p : Straps} (hp : s.straps = some p) (hok : s.PolicyOk) {f : Fin 8}
    (hf : s.configured f = true) {a w : Nat} (ha : a ∈ s.regions[f].bases) (hwa : s.regions[f].Holds a w)
    {c : BeatClass} (hc : inFace f s.regions[f] w = some c) : s.classify (some w) = c := by
  have honly : ∀ g ∈ allFaces, g ≠ f → inFace g s.regions[g] w = none := fun g _ hgf =>
    inFace_of_not_holds g fun hg b hb hwb => hgf (PolicyOk.faces_apart hp hok hg hf hb ha hwb hwa)
  rw [classify_outside hp (PolicyOk.service_apart hp hok hf ha hwa), inFaces_of_only (mem_allFaces f) honly, hc]
  rfl

theorem isConfigured_eq (s : State) : s.isConfigured = decide (∃ g : Fin 8, s.configured g = true) := by
  rw [Bool.eq_iff_iff, decide_eq_true_eq, State.isConfigured, List.any_eq_true]
  exact ⟨fun ⟨g, _, hg⟩ => ⟨g, hg⟩, fun ⟨g, hg⟩ => ⟨g, mem_allFaces g, hg⟩⟩

/-- Settles O21: the checks of R29 in order, where validated buffers share no word with each other or the service
area. -/
theorem beatPlacement : Obligations.BeatPlacement := by
  intro s p f off w buf hp hok
  refine ⟨rfl, rfl, fun h => ?_, fun h => ?_, fun hw hno => ?_, fun hf hoff hbuf => ?_⟩
  · rw [classify_service hp (by omega), if_pos h]
  · rw [Nat.add_assoc, classify_service hp (by omega), if_neg (by omega), Nat.add_sub_cancel_left]
  · have hnone : ∀ g ∈ allFaces, inFace g s.regions[g] w = none := fun g _ =>
      inFace_of_not_holds g fun hg base hb hwb => by
        have := hno g hg base hb
        omega
    rw [classify_outside hp hw, inFaces_of_none hnone, ← isConfigured_eq]
    rfl
  · have hcfg : s.regions[f].configured = true := hf
    have hholds (base : Nat) : s.regions[f].Holds base (base + off) := ⟨by omega, by omega⟩
    intro x line
    rcases hbuf with ⟨rfl, rfl⟩ | ⟨rfl, hB⟩
    · refine classify_of_holds hp hok hf List.mem_cons_self (hholds _) ?_
      rw [inFace, hcfg, inBuffer_of_holds f .A (hholds _), Nat.add_sub_cancel_left]
      rfl
    · obtain ⟨b, hb, rfl⟩ := Option.map_eq_some_iff.mp hB
      refine classify_of_holds hp hok hf (a := b) (Region.baseB_mem_bases hb) (hholds b) ?_
      rw [inFace, hcfg, inBuffer_of_not_holds f .A (PolicyOk.buffers_apart hp hok hf hb (hholds b)), hb, Option.bind_some,
        inBuffer_of_holds f .B (hholds b), Nat.add_sub_cancel_left]
      rfl

end Sys2Proof.Machine
end

section
/-! SUPPORT. What a delivered beat of each class does, and that the rows of single beats do what such a beat does (R30,
R34, R39, R44, R132, R161, R169). -/

namespace Sys2Proof.Machine

/-! ### Reads -/

/-- A face changed to what it is. -/
theorem modFace_of_eq {s : State} {f : Fin 8} {g : FaceState → FaceState} (h : g s.faces[f] = s.faces[f]) :
    s.modFace f g = s := by
  have hset : s.faces.set f (g s.faces[f]) = s.faces := by rw [h]; exact Vector.set_getElem_self _
  rw [State.modFace, hset]

/-- Where no frame is OPEN no pixel is counted (R113). -/
theorem countBeat_of_not_open {p : PixelState} (h : p.frameOpen = false) (a b : Word) : p.countBeat a b = p :=
  if_neg (by simp [h])

/-- A pixel read of a DARK face leaves black and uncounted, and its monitor stands (R112, R125). -/
theorem pixelRead_of_dark {s : State} {f : Fin 8} (hd : s.faces[f].mode = .dark)
    (ho : s.faces[f].pixel.frameOpen = false) (b : Buffer) (l : Nat) (z : Fin 16) (w : Word) :
    s.pixelRead f b l z w = s.deliver (blackWord w) := by
  have hmon : s.monitored f = false := by rw [State.monitored, hd]; exact Bool.and_false _
  have hblank : s.faces[f].blanked = true := by rw [FaceState.blanked, hd]; rfl
  have hout : s.pixelOut f z w = blackWord w := if_pos hblank
  rw [State.pixelRead, hmon, State.scalePixel, hout]
  exact (if_pos rfl).trans (congrArg (State.deliver · _)
    (modFace_of_eq (congrArg (fun p => { s.faces[f] with pixel := p }) (countBeat_of_not_open ho _ _))))

/-! ### Writes into a face buffer -/

theorem monitored_iff (s : State) (f : Fin 8) :
    s.monitored f = true ↔ s.configured f = true ∧ s.faces[f].mode ≠ .dark := by simp [State.monitored]

theorem liveWrite_eq {s : State} {f : Fin 8} (h : s.faces[f].scan.liveWrites ≤ max16) (b : Buffer) :
    s.liveWrite f b =
      if s.configured f = true ∧ s.faces[f].mode ≠ .dark ∧ s.faces[f].scan.state = .scanning ∧
          s.faces[f].scan.displayed = b then
        s.modFace f fun x => { x with scan := { x.scan with liveWrites := min max16 (s.faces[f].scan.liveWrites + 1) } }
      else s := by
  rw [State.liveWrite, ← satInc_eq_min h]
  simp only [Bool.and_eq_true, monitored_iff, beq_iff_eq, and_assoc]
  rfl

/-! ### Writes of the mode words -/

theorem bits_low3 (w : Word) : bits w 0 3 = w.toNat % 8 := by simp [bits_eq]

/-- The mode words of the codes 0 to 7 (12.3). -/
theorem modeWord_fields : ∀ (c : Fin 8) (up : Bool),
    modeWord c.val up = BitVec.ofNat 32 (c.val + 8 * up.toNat) ∧ bits (modeWord c.val up) 0 3 = c.val ∧
      (modeWord c.val up).getLsbD 3 = up := by decide

/-- A write beat at a face's mode word (R39, R44). -/
theorem policyWrite_faceMode (s : State) (f : Fin 8) (data : Word) (m : Mask) :
    s.policyWrite (4 + f.val) data m = if whole m then s.faceModeWord f data else s := by
  have hf : Fin.ofNat 8 (4 + f.val - 4) = f := by rw [Nat.add_sub_cancel_left]; exact Fin.ofNat_val_eq_self f
  have himm : s.immediateWrite (4 + f.val) data = s.faceModeWord f data := by
    rw [State.immediateWrite, if_neg (by omega), if_neg (by omega), if_neg (by omega), if_neg (by omega),
      if_pos (by omega), hf]
  rw [State.policyWrite, if_pos (by omega), himm]

/-- A mode write follows from the code and the flag of its word. -/
theorem faceModeWord_congr (s : State) (f : Fin 8) {v w : Word} (hc : bits v 0 3 = bits w 0 3)
    (hu : v.getLsbD 3 = w.getLsbD 3) : s.faceModeWord f v = s.faceModeWord f w := by
  simp only [State.faceModeWord, hc, hu]

/-- A code that names neither a mode nor a release is discarded (R44). -/
theorem faceModeWord_of_no_code {s : State} {f : Fin 8} {w : Word}
    (h : bits w 0 3 = 0 ∨ bits w 0 3 = 5 ∨ bits w 0 3 = 6) : s.faceModeWord f w = s := by
  unfold State.faceModeWord
  rcases h with h | h | h <;> simp [h, modeOfCode]

/-! ### Writes of the report page -/

/-- The slot and word of an offset (R165). -/
theorem slotWord_slot (k : Fin 32) {j : Nat} (hj : j < 8) : slotWord (1032 + 8 * k.val + j) = some (k, j) := by
  have hk := k.isLt
  have hdiv : (1032 + 8 * k.val + j - 1032) / 8 = k.val := by omega
  have hmod : (1032 + 8 * k.val + j - 1032) % 8 = j := by omega
  rw [slotWord, if_pos (by simp only [Bool.and_eq_true, decide_eq_true_eq]; omega), hdiv, hmod, Fin.ofNat_val_eq_self]

/-- An offset that is no slot's header or filter word. -/
theorem slotWord_of_no_row {off : Nat} (h : off < 1032 ∨ 1288 ≤ off ∨ 2 ≤ off % 8) :
    slotWord off = none ∨ ∃ k j, slotWord off = some (k, j + 2) := by
  unfold slotWord
  split
  · rename_i hin
    simp only [Bool.and_eq_true, decide_eq_true_eq] at hin
    refine .inr ⟨Fin.ofNat 32 ((off - 1032) / 8), (off - 1032) % 8 - 2, ?_⟩
    rw [Nat.sub_add_cancel (by omega)]
  · exact .inl rfl

theorem reportWrite_header (s : State) (k : Fin 32) (data : Word) (m : Mask) :
    s.reportWrite (1032 + 8 * k.val) data m =
      if whole m then s.modReport fun p => p.headerWrite k (bits data 0 3) else s := by
  have hslot : slotWord (1032 + 8 * k.val) = some (k, 0) := slotWord_slot k (j := 0) (by omega)
  rw [State.reportWrite, hslot]
  rfl

theorem reportWrite_of_no_row (s : State) {off : Nat} (h : off < 1032 ∨ 1288 ≤ off ∨ 2 ≤ off % 8) (data : Word)
    (m : Mask) : s.reportWrite off data m = s := by
  unfold State.reportWrite
  rcases slotWord_of_no_row h with h | ⟨k, j, h⟩ <;> simp only [h]

/-- A slot code that is neither INACTIVE nor EMPTY is discarded (R161). -/
theorem headerWrite_of_no_code (p : Report) (k : Fin 32) {c : Nat} (h : 2 ≤ c) : p.headerWrite k c = p := by
  rw [Report.headerWrite, if_neg (by omega : c ≠ 1), if_neg (by omega : c ≠ 0), ite_self]

/-! ### The rows of single write beats -/

theorem serviceWrite_eq_takeWrite {s : State} (ht : s.takesBus = true) (off : Nat) (data : Word) (m : Mask) :
    s.serviceWrite off data m =
      (s.driveStore data m).takeWrite (if off < 2048 then .policy off else .report (off - 2048)) data m := by
  obtain ⟨hr, -⟩ := (takesBus_iff s).mp ht
  simp [State.serviceWrite, hr, ht]

theorem serviceWrite_policy {s : State} (ht : s.takesBus = true) {off : Nat} (h : off < 2048) (data : Word) (m : Mask) :
    s.serviceWrite off data m = (s.driveStore data m).takeWrite (.policy off) data m := by
  rw [serviceWrite_eq_takeWrite ht, if_pos h]

theorem serviceWrite_slot {s : State} (ht : s.takesBus = true) (k : Fin 32) (j : Nat) (data : Word) (m : Mask) :
    s.serviceWrite (slotOffset k j) data m =
      (s.driveStore data m).takeWrite (.report (1032 + 8 * k.val + j)) data m := by
  have hoff : slotOffset k j - 2048 = 1032 + 8 * k.val + j := by unfold slotOffset; omega
  rw [serviceWrite_eq_takeWrite ht, if_neg (by unfold slotOffset; omega), hoff]

/-- A mode row does what a beat with its code and flag does (R44). -/
theorem serviceWrite_modeWord {s : State} (ht : s.takesBus = true) (f : Fin 8) (w : Word) (m : Mask) :
    s.serviceWrite (4 + f.val) (modeWord (w.toNat % 8) (w.getLsbD 3)) m =
      (s.driveStore (BitVec.ofNat 32 (w.toNat % 8 + 8 * (w.getLsbD 3).toNat)) m).takeWrite (.policy (4 + f.val)) w m := by
  obtain ⟨hword, hcode, hup⟩ := modeWord_fields ⟨w.toNat % 8, by omega⟩ (w.getLsbD 3)
  dsimp only at hword hcode hup
  have hbits : bits (modeWord (w.toNat % 8) (w.getLsbD 3)) 0 3 = bits w 0 3 := by
    rw [hcode, bits_low3]
  rw [serviceWrite_policy ht (by omega), ← hword]
  simp only [State.takeWrite, policyWrite_faceMode, faceModeWord_congr _ f hbits hup]

/-- A slot row does what a beat with its code does (R161). -/
theorem serviceWrite_slotHeader {s : State} (ht : s.takesBus = true) (k : Fin 32) (data w : Word) (m : Mask)
    (h : bits data 0 3 = w.toNat % 8) :
    s.serviceWrite (slotOffset k 0) data m =
      (s.driveStore data m).takeWrite (.report (1032 + 8 * k.val)) w m := by
  have hbits : bits data 0 3 = bits w 0 3 := by rw [h, bits_low3]
  rw [serviceWrite_slot ht]
  simp only [State.takeWrite, Nat.add_zero, reportWrite_header, hbits]

/-- Settles O23: each class by itself; the rows of single beats by the word that the beat carries. -/
theorem beatsByClass : Obligations.BeatsByClass := by
  intro s w m f b x line z off cfg k drive answer
  have hlow := bits_low3 w
  refine ⟨⟨rfl, rfl, rfl, rfl, rfl, rfl, fun hd ho => pixelRead_of_dark hd ho b line z w⟩,
    ⟨rfl, rfl, rfl, fun h => liveWrite_eq h b⟩, fun ht => ⟨?_, ?_, ?_, ?_, ?_, ?_, ?_, ?_, ?_⟩, fun h => ?_,
    fun hoff hnone => ?_, fun h => reportWrite_of_no_row s h w m⟩
  · exact congrArg _ (serviceWrite_policy ht (by decide) w m)
  · exact congrArg _ (serviceWrite_policy ht (by decide) w m)
  · exact congrArg _ (serviceWrite_policy ht (by decide) w m)
  · exact congrArg _ (serviceWrite_policy ht (by decide) w m)
  · intro code up word t
    have hrow (n : Nat) (h : code = n) : Host.Outcome.next (s.serviceWrite (4 + f.val) (modeWord n up) m) =
        (.next t : Host.Outcome State Fault Refusal) := by
      rw [← h]
      exact congrArg _ (serviceWrite_modeWord ht f w m)
    refine ⟨hrow 1, hrow 2, hrow 3, hrow 4, hrow 7, fun h => ?_⟩
    have hno := faceModeWord_of_no_code (s := drive word) (f := f) (w := w) (by rw [hlow]; exact h)
    refine (policyWrite_faceMode (drive word) f w m).trans ?_
    rw [hno, ite_self]
  · exact fun _ => congrArg _ (serviceWrite_policy ht off.isLt w m)
  · exact fun h => congrArg _ (serviceWrite_slotHeader ht k 1#32 w m (by rw [h]; decide))
  · exact fun h => congrArg _ (serviceWrite_slotHeader ht k 0#32 w m (by rw [h]; decide))
  · have hoff : 1032 + 8 * k.val + 1 = 1033 + 8 * k.val := by omega
    exact congrArg _ (hoff ▸ serviceWrite_slot ht k 1 w m)
  · refine (reportWrite_header s k w m).trans ?_
    simp only [headerWrite_of_no_code _ k (hlow ▸ h)]
    exact ite_self s
  · have himm : s.immediateWrite off.val w = s := by
      rw [State.immediateWrite, if_neg (by omega), if_neg (by omega), if_neg (by omega), if_neg (by omega),
        if_neg (by omega)]
    rw [State.takeWrite, State.policyWrite, himm, ite_self, Option.isNone_iff_eq_none.mp hnone]
    exact ite_self s

end Sys2Proof.Machine
end

section
/-! SUPPORT. The words of the report page's items (R145, R166, R170, 12.6): fields side by side are a sum. -/

namespace Sys2Proof.Machine

/-! ### Fields side by side -/

/-- The word has the value a, which takes its k low bits. -/
structure FitsWord (w : Word) (a k : Nat) : Prop where
  eq : w = BitVec.ofNat 32 a
  lt : a < 2 ^ k

theorem put_eq {lo n v : Nat} (h : v < 2 ^ n) : put lo n v = BitVec.ofNat 32 (v * 2 ^ lo) := by
  rw [put, Nat.mod_eq_of_lt h]

theorem FitsWord.put {n v : Nat} (h : v < 2 ^ n) : FitsWord (put 0 n v) v n :=
  ⟨by rw [put_eq h, Nat.pow_zero, Nat.mul_one], h⟩

/-- A field put above what a word holds adds its value there. -/
theorem FitsWord.or {w : Word} {a k lo n v : Nat} (h : FitsWord w a k) (hk : k ≤ lo) (hv : v < 2 ^ n) :
    FitsWord (w ||| Machine.put lo n v) (a + v * 2 ^ lo) (lo + n) where
  eq := by
    have ha : a < 2 ^ lo := h.lt.trans_le (Nat.pow_le_pow_right (by decide) hk)
    rw [h.eq, put_eq hv, ← BitVec.ofNat_or, Nat.or_comm, Nat.mul_comm, ← Nat.two_pow_add_eq_or_of_lt ha, Nat.add_comm]
  lt := by
    have ha : a < 2 ^ lo := h.lt.trans_le (Nat.pow_le_pow_right (by decide) hk)
    calc a + v * 2 ^ lo < 2 ^ lo + v * 2 ^ lo := by omega
      _ = (v + 1) * 2 ^ lo := by ring
      _ ≤ 2 ^ n * 2 ^ lo := Nat.mul_le_mul_right _ hv
      _ = 2 ^ (lo + n) := by ring

theorem FitsWord.orBit {w : Word} {a k lo : Nat} (h : FitsWord w a k) (hk : k ≤ lo) (b : Bool) :
    FitsWord (w ||| putBit lo b) (a + b.toNat * 2 ^ lo) (lo + 1) := h.or hk (Bool.toNat_lt b)

theorem FitsWord.toNat {w : Word} {a k : Nat} (h : FitsWord w a k) (hk : k ≤ 32) : w.toNat = a := by
  rw [h.eq, BitVec.toNat_ofNat]
  exact Nat.mod_eq_of_lt (h.lt.trans_le (Nat.pow_le_pow_right (by decide) hk))

/-- A flag counts for its place where it is set. -/
theorem toNat_mul (b : Bool) (n : Nat) : b.toNat * n = if b then n else 0 := by cases b <;> simp

/-! ### Codes -/

theorem modeCode_lt (m : Mode) : m.code < 2 ^ 3 := by cases m <;> decide
theorem scanCode_lt (x : ScanMode) : x.code < 2 ^ 2 := by cases x <;> decide
theorem commitCode_lt (x : CommitState) : x.code < 2 ^ 2 := by cases x <;> decide
theorem reasonCode_lt (r : Reason) : r.code < 2 ^ 4 := by cases r <;> decide
theorem secCode_lt (x : Sec) : x.code < 2 ^ 3 := by cases x <;> decide

/-- The mode word as it reads takes ten bits (12.3). -/
theorem modeImage_word_fits {m : ModeImage} (h : m.latency = 2 ∨ m.latency = 3) : ∃ a, FitsWord m.word a 10 := by
  have hlen : m.length.code < 2 ^ 3 := by cases m.length <;> decide
  have hsrc : m.source.code < 2 ^ 2 := by cases m.source <;> decide
  have hlat : m.latency < 2 ^ 3 := by omega
  exact ⟨_, ((((FitsWord.put hlen).orBit (by decide) _).or (by decide) hlat).orBit (by decide) _).or (by decide) hsrc⟩

/-! ### The header item -/

theorem reportRead_header (s : State) {k : Nat} (h : k < 32) : s.reportRead k = s.headerWord k := if_pos h

theorem headerWord_of_reserved (s : State) {k : Nat} (h : 12 ≤ k) : s.headerWord k = 0#32 := by
  obtain ⟨j, rfl⟩ := Nat.exists_eq_add_of_le' h
  rfl

/-- The commit status word (12.6). -/
theorem commitStatus_word {c : CommitStatus} (h : c.lost ≤ 255) {a b : Nat} (ha : c.state.code * 256 = a)
    (hb : (c.failure.elim 0 fun q => q.1.code * 4096 + q.2.code * 65536) = b) :
    c.word = BitVec.ofNat 32 (c.seq.toNat + c.lost * 16777216 + a + b) := by
  have hbase := (FitsWord.put c.seq.isLt).or (lo := 8) (by decide) (commitCode_lt c.state)
  have hlost : c.lost < 2 ^ 8 := by omega
  rw [← ha, ← hb]
  unfold CommitStatus.word
  cases c.failure with
  | none =>
    simp only [BitVec.or_zero]
    refine ((hbase.or (lo := 24) (by decide) hlost).eq).trans (congrArg _ ?_)
    rw [Option.elim_none]
    ring
  | some q =>
    have hall := ((hbase.or (lo := 12) (by decide) (reasonCode_lt q.1)).or (lo := 16) (by decide) (secCode_lt q.2)).or
      (lo := 24) (by decide) hlost
    simp only [← BitVec.or_assoc]
    refine hall.eq.trans (congrArg _ ?_)
    rw [Option.elim_some]
    ring

theorem configuredFaces_length (s : State) : s.configuredFaces.length ≤ 8 := List.length_filter_le _ _

/-- The tracking word of the header item: the mode word and the tracking flag above it (12.6). -/
theorem trackingWord {s : State} (h : s.tracker.mode.latency = 2 ∨ s.tracker.mode.latency = 3) :
    s.headerWord 5 = s.policyRead 1 + (if s.tracker.mode.source = .unknown then 0#32 else 65536#32) := by
  obtain ⟨a, ha⟩ := modeImage_word_fits h
  have hread : s.policyRead 1 = s.tracker.mode.word := rfl
  refine (ha.orBit (lo := 16) (by decide) s.tracking).eq.trans ?_
  rw [hread, ha.eq, BitVec.ofNat_add, State.tracking, ModeImage.tracking]
  cases s.tracker.mode.source <;> rfl

/-- Bits put over a word one after the other, over what the word holds. -/
theorem or_foldl_or {α : Type} (g : α → Word) (l : List α) (a b : Word) :
    a ||| l.foldl (fun w x => w ||| g x) b = l.foldl (fun w x => w ||| g x) (a ||| b) := by
  induction l generalizing b with
  | nil => rfl
  | cons x l ih => rw [List.foldl_cons, ih, List.foldl_cons, BitVec.or_assoc]

/-- A sum over the elements that a test keeps. -/
theorem sum_map_filter {α : Type} (p : α → Bool) (g : α → Nat) (l : List α) :
    ((l.filter p).map g).sum = (l.map fun x => (p x).toNat * g x).sum := by
  induction l with
  | nil => rfl
  | cons x l ih => cases h : p x <;> simp [h, ih]

/-- Face bits put over a word in face order add their places to it (12.6). -/
theorem foldl_faceBits (c : Fin 8 → Bool) (l : List (Fin 8)) :
    ∀ {w : Word} {a k : Nat}, FitsWord w a k → l.Pairwise (· < ·) → (∀ f ∈ l, k ≤ 8 + f.val) →
      l.foldl (fun w f => w ||| putBit (8 + f.val) (c f)) w =
        BitVec.ofNat 32 (a + (l.map fun f => (c f).toNat * (256 * 2 ^ f.val)).sum) := by
  induction l with
  | nil => exact fun h _ _ => h.eq
  | cons f l ih =>
    intro w a k h hl hk
    obtain ⟨hf, hl⟩ := List.pairwise_cons.mp hl
    have hnext := ih (h.orBit (hk f List.mem_cons_self) (c f)) hl fun g hg => by
      have := hf g hg
      omega
    rw [List.foldl_cons, hnext, List.map_cons, List.sum_cons, Nat.pow_add, Nat.add_assoc]

/-- The configuration word of the header item (12.6). -/
theorem configurationWord (s : State) :
    putBit 0 s.isConfigured ||| s.faceBits =
      BitVec.ofNat 32 ((if s.configuredFaces = [] then 0 else 1)
        + (s.configuredFaces.map fun g => 256 * 2 ^ g.val).sum) := by
  have hany : s.isConfigured.toNat = if s.configuredFaces = [] then 0 else 1 := by
    have hiff : s.isConfigured = true ↔ s.configuredFaces ≠ [] := by
      simp [State.isConfigured, State.configuredFaces, List.filter_eq_nil_iff]
    cases h : s.isConfigured <;> simp [h] at hiff <;> simp [hiff]
  have hbit : FitsWord (putBit 0 s.isConfigured ||| 0#32) s.isConfigured.toNat 1 := by
    rw [BitVec.or_zero]
    exact .put (Bool.toNat_lt _)
  rw [State.faceBits, or_foldl_or (fun f : Fin 8 => putBit (8 + f.val) (s.configured f)),
    foldl_faceBits s.configured allFaces hbit (by decide) (by decide), ← hany, State.configuredFaces, sum_map_filter]

/-! ### The face items -/

theorem reportRead_face {s : State} {i : Nat} {f : Fin 8} (h : s.configuredFaces[i]? = some f) {k : Nat} (hk : k < 48) :
    s.reportRead (32 + 48 * i + k) = s.faceWord f (32 + 48 * (i + 1)) k := by
  obtain ⟨hi, -⟩ := List.getElem?_eq_some_iff.mp h
  have hdiv : (32 + 48 * i + k - 32) / 48 = i := by omega
  have hmod : (32 + 48 * i + k - 32) % 48 = k := by omega
  rw [State.reportRead]
  simp only [hdiv, hmod, h]
  rw [if_neg (by omega), if_pos (by omega)]

theorem faceWord_of_reserved (s : State) (f : Fin 8) (next : Nat) {k : Nat} (h : 18 ≤ k) :
    s.faceWord f next k = 0#32 := by
  obtain ⟨j, rfl⟩ := Nat.exists_eq_add_of_le' h
  rfl

theorem lightWord {x : Option Nat} (h : ∀ l ∈ x, l ≤ max16) :
    put 0 16 (x.getD 0) ||| putBit 16 x.isNone = x.elim 65536#32 (BitVec.ofNat 32) := by
  cases x with
  | none => decide
  | some l =>
    have hl : l < 2 ^ 16 := Nat.lt_succ_of_le (h l rfl)
    exact ((FitsWord.put hl).orBit (by decide) false).eq.trans (congrArg _ (by simp))

/-- The classes of a cause set are at most the twelve that a face can hold (R166). -/
theorem causeCodes_length {cs : List Cause} (h : causesOk cs) : (causeCodes cs).length ≤ 12 := by
  have hsub : causeCodes cs ⊆ faceClasses := by
    intro k hk
    obtain ⟨-, hany⟩ := List.mem_filter.mp hk
    obtain ⟨c, hc, hck⟩ := List.any_eq_true.mp hany
    exact beq_iff_eq.mp hck ▸ h.2 c hc
  exact (List.subperm_of_subset (List.nodup_range.filter _) hsub).length_le

/-- Four codes to a word (12.6). -/
theorem codesWord_eq (cs : List Cause) (j : Nat) :
    codesWord (causeCodes cs) j =
      BitVec.ofNat 32 ((causeCodes cs).getD (4 * j) 0 + (causeCodes cs).getD (4 * j + 1) 0 * 256
        + (causeCodes cs).getD (4 * j + 2) 0 * 65536 + (causeCodes cs).getD (4 * j + 3) 0 * 16777216) := by
  have hlt (n : Nat) : (causeCodes cs).getD n 0 < 2 ^ 8 := by
    rw [List.getD_eq_getElem?_getD]
    cases h : (causeCodes cs)[n]? with
    | none => decide
    | some k =>
      have hk := List.mem_range.mp (List.mem_filter.mp (List.mem_of_getElem? h)).1
      exact hk.trans (by decide)
  exact ((((FitsWord.put (hlt _)).or (by decide) (hlt _)).or (by decide) (hlt _)).or (by decide) (hlt _)).eq

/-- The greatest of a list bounds it, and is one of it where it is not 0. -/
theorem greatest_spec (vs : List Nat) : (∀ v ∈ vs, v ≤ greatest vs) ∧ (greatest vs = 0 ∨ greatest vs ∈ vs) := by
  have hfold (l : List Nat) : ∀ a, a ≤ l.foldl max a ∧ (∀ v ∈ l, v ≤ l.foldl max a) ∧
      (l.foldl max a = a ∨ l.foldl max a ∈ l) := by
    induction l with
    | nil => simp
    | cons x l ih =>
      intro a
      obtain ⟨ha, hl, hm⟩ := ih (max a x)
      refine ⟨(le_max_left _ _).trans ha, List.forall_mem_cons.mpr ⟨(le_max_right _ _).trans ha, hl⟩, ?_⟩
      rcases hm with hm | hm
      · rw [List.foldl_cons, hm]
        rcases max_choice a x with h | h <;> simp [h]
      · exact .inr (List.mem_cons_of_mem _ hm)
  exact (hfold vs 0).2

/-- The greatest byte of a field of some tiles bounds the field, and is one tile's where it is not 0. -/
theorem greatest_bytes (es : List TileEntry) (g : TileEntry → Byte) :
    greatest (es.map fun e => (g e).toNat) < 2 ^ 8 ∧
      (∀ e ∈ es, (g e).toNat ≤ greatest (es.map fun e => (g e).toNat)) ∧
      (greatest (es.map fun e => (g e).toNat) = 0 ∨
        ∃ e ∈ es, (g e).toNat = greatest (es.map fun e => (g e).toNat)) := by
  obtain ⟨hle, hmem⟩ := greatest_spec (es.map fun e => (g e).toNat)
  have hmem := hmem.imp_right List.mem_map.mp
  refine ⟨?_, fun e he => hle _ (List.mem_map_of_mem he), hmem⟩
  rcases hmem with h | ⟨e, -, h⟩
  · rw [h]; decide
  · rw [← h]; exact (g e).isLt

/-- The four fields of the tile summary of a face's 32 entries (R145, 12.6). -/
theorem tileSummary_fields (v : Vector TileEntry 32) :
    let es := v.toList
    let live := es.filter fun e => e.heard && !e.silent
    let n := (tileSummary es).toNat
    n % 256 = (es.filter (·.heard)).length ∧ n / 256 % 256 = (es.filter (·.silent)).length ∧
      n / 65536 % 256 = greatest (live.map fun e => e.temp.toNat) ∧
      n / 16777216 = greatest (live.map fun e => e.openCount.toNat) := by
  intro es live n
  have hlen : es.length = 32 := v.length_toList
  have hheard : (es.filter (·.heard)).length < 2 ^ 6 := (hlen ▸ List.length_filter_le _ _).trans_lt (by decide)
  have hsilent : (es.filter (·.silent)).length < 2 ^ 6 := (hlen ▸ List.length_filter_le _ _).trans_lt (by decide)
  have htemp := (greatest_bytes live (·.temp)).1
  have hopen := (greatest_bytes live (·.openCount)).1
  have hsum : n = _ := ((((FitsWord.put hheard).or (lo := 8) (by decide) hsilent).or (lo := 16) (by decide) htemp).or
    (lo := 24) (by decide) hopen).toNat (by decide)
  refine ⟨?_, ?_, ?_, ?_⟩ <;> omega

/-- The word of a configured face's modes and scan (12.6). -/
theorem faceWord_modes {s : State} {f : Fin 8} (h : s.configured f = true) (next : Nat) :
    s.faceWord f next 1 =
      BitVec.ofNat 32 (f.val + s.faces[f].mode.code * 2 ^ 8 + s.faces[f].level.catchUp.toNat * 2 ^ 11
        + s.faces[f].scan.state.code * 2 ^ 16 + (s.faces[f].scan.displayed == .B).toNat * 2 ^ 20) := by
  have hmode : s.shownMode f = s.faces[f].mode := if_pos h
  have hup : s.shownCatchUp f = s.faces[f].level.catchUp := by rw [State.shownCatchUp, h, Bool.true_and]
  rw [← hmode, ← hup]
  exact (((((FitsWord.put f.isLt).or (n := 3) (lo := 8) (by decide) (modeCode_lt _)).orBit (lo := 11) (by decide) _).or
    (lo := 16) (by decide) (scanCode_lt _)).orBit (lo := 20) (by decide) _).eq

/-! ### The channel items -/

theorem reportRead_channel (s : State) (ch : Fin 4) {k : Nat} (hk : k < 16) :
    ∃ next, s.reportRead (32 + 48 * s.configuredFaces.length + 16 * ch.val + k) = s.channelWord ch next k := by
  have hn := configuredFaces_length s
  have hc := ch.isLt
  have hdiv : (32 + 48 * s.configuredFaces.length + 16 * ch.val + k - 32 - 48 * s.configuredFaces.length) / 16 =
      ch.val := by omega
  have hmod : (32 + 48 * s.configuredFaces.length + 16 * ch.val + k - 32 - 48 * s.configuredFaces.length) % 16 = k := by
    omega
  rw [State.reportRead]
  simp only [hdiv, hmod, Fin.ofNat_val_eq_self]
  rw [if_neg (by omega), if_neg (by omega), if_pos (by omega)]
  exact ⟨_, rfl⟩

theorem channelWord_of_reserved (s : State) (ch : Fin 4) (next : Nat) {k : Nat} (h : 6 ≤ k) :
    s.channelWord ch next k = 0#32 := by
  obtain ⟨j, rfl⟩ := Nat.exists_eq_add_of_le' h
  rfl

/-- The lower median is one of the codes. -/
theorem lowerMedian_mem {w : List Nat} {v : Nat} (h : lowerMedian w = some v) : v ∈ w :=
  (sortCodes_perm w).mem_iff.mp (List.mem_of_getElem? h)

/-- A channel's window is short, and its filtered value is a light code or 0 (5.2, R77). -/
theorem Channel.Ok.window_fits {c : Channel} (h : c.Ok) :
    c.window.length < 2 ^ 4 ∧ (lowerMedian c.window).getD 0 ≤ max16 := by
  obtain ⟨hfresh, hstale, hcodes, -⟩ := h
  refine ⟨?_, ?_⟩
  · cases hst : c.state with
    | fresh => exact (hfresh hst).2.2.1.trans_lt (by decide)
    | stale => rw [(hstale hst).1]; decide
  · cases hm : lowerMedian c.window with
    | none => exact Nat.zero_le _
    | some v => exact hcodes v (lowerMedian_mem hm)

/-- Settles O57: each word is the sum of its fields, every field within its width by the invariants. -/
theorem itemWords : Obligations.ItemWords := by
  intro s p i f ch w hp hfaces hlight htiles hpolicy htime htracker hreport hrefused hlost fs head face chan y c word
    st codes codeWord tiles live tops
  refine ⟨?_, fun hf => ?_, ?_⟩
  · have hhead (k : Nat) (hk : k < 32) : head k = s.headerWord k := reportRead_header s hk
    obtain ⟨hqueue, -, hdrop, -⟩ := hreport
    obtain ⟨herrors, hdiscarded, -⟩ := htiles
    obtain ⟨hlatency, -, -, -, -, -, -, -, hentries⟩ := htracker
    have himg : s.strapImage = p := by simp [State.strapImage, hp]
    refine ⟨?_, hhead 4 (by decide), ?_, ?_, ?_, ?_, ?_, ?_, ?_, fun h12 h32 =>
      (hhead w h32).trans (headerWord_of_reserved s h12)⟩
    · refine (hhead 3 (by decide)).trans ((congrArg strapWord himg).trans ?_)
      exact ((((FitsWord.put p.svc.isLt).orBit (lo := 2) (by decide) p.map).or (lo := 4) (by decide) p.fb.isLt).orBit
        (lo := 6) (by decide) p.clk).eq
    · exact (hhead 5 (by decide)).trans (trackingWord hlatency)
    · exact (hhead 6 (by decide)).trans (configurationWord s)
    · refine (hhead 7 (by decide)).trans (commitStatus_word hlost ?_ ?_)
      · cases s.policy.status.state <;> rfl
      · rcases s.policy.status.failure with _ | ⟨r, x⟩
        · rfl
        · cases r <;> cases x <;> rfl
    · have hr : s.policy.refused < 2 ^ 8 := Nat.lt_succ_of_le hrefused
      refine (hhead 8 (by decide)).trans
        (((FitsWord.put hr).orBit (lo := 16) (by decide) s.report.restartPending).eq.trans ?_)
      rw [toNat_mul]
      rfl
    · have hd : s.report.drop < 2 ^ 16 := Nat.lt_succ_of_le hdrop
      have hq : s.report.queue.length < 2 ^ 5 := by omega
      have he : s.tracker.queue.length < 2 ^ 3 := by omega
      exact (hhead 9 (by decide)).trans
        (((FitsWord.put hd).or (lo := 16) (by decide) hq).or (lo := 24) (by decide) he).eq
    · exact (hhead 10 (by decide)).trans (FitsWord.put (Nat.lt_succ_of_le hlight.1)).eq
    · exact (hhead 11 (by decide)).trans ((FitsWord.put (Nat.lt_succ_of_le herrors)).or (lo := 16) (n := 16) (by decide)
        (Nat.lt_succ_of_le hdiscarded)).eq
  · have hface (k : Nat) (hk : k < 48) : face k = s.faceWord f (32 + 48 * (i.val + 1)) k := reportRead_face hf hk
    have hcfg : s.configured f = true := (List.mem_filter.mp (List.mem_of_getElem? hf)).2
    obtain ⟨hy, -⟩ := hfaces f
    obtain ⟨hheld, htarget, hcurve, hcap, hlightOk, hfactor, haplFactor, haplIn, haplOut, -, -, -, -, -, -, -, hlive,
      hblank, hderate, hclean⟩ := hy
    obtain ⟨hheard, hsilent, htemp, hopen⟩ := tileSummary_fields s.tiles.entries[f]
    have h17 := hface 17 (by decide)
    have hcount {n : Nat} (h : n ≤ 12) : n < 2 ^ 4 := by omega
    have h12 {n : Nat} (h : n ≤ 4095) : n < 2 ^ 12 := Nat.lt_succ_of_le h
    have hbyte (g : TileEntry → Byte) := greatest_bytes live g
    refine ⟨?_, ?_, ?_, ?_, ?_, ?_, hface 7 (by decide), ?_, ?_, fun j => ?_, ?_, fun j => ?_, ?_, ?_, ?_, ?_,
      fun h18 h48 => (hface w h48).trans (faceWord_of_reserved s f _ h18)⟩
    · refine (hface 1 (by decide)).trans ((faceWord_modes hcfg _).trans (congrArg _ ?_))
      refine congrArg₂ (· + ·) (congrArg₂ (· + ·) (congrArg₂ (· + ·) (congrArg _ ?_) ?_) ?_) ?_
      · cases s.faces[f].mode <;> rfl
      · exact toNat_mul _ _
      · cases s.faces[f].scan.state <;> rfl
      · cases s.faces[f].scan.displayed <;> rfl
    · refine (hface 2 (by decide)).trans ((lightWord hlightOk).trans ?_)
      cases s.faces[f].level.light <;> rfl
    · exact (hface 3 (by decide)).trans ((FitsWord.put (h12 hcurve)).or (lo := 16) (by decide) (h12 hcap)).eq
    · have hout : s.faces[f].level.output < 2 ^ 12 := by
        unfold LevelState.output outputLevel
        omega
      exact (hface 4 (by decide)).trans ((FitsWord.put (h12 htarget)).or (lo := 16) (by decide) hout).eq
    · have h13 {n : Nat} (h : n ≤ 4096) : n < 2 ^ 13 := by omega
      exact (hface 5 (by decide)).trans ((FitsWord.put (h13 hfactor)).or (lo := 16) (by decide) (h13 haplFactor)).eq
    · have h10 {n : Nat} (h : n ≤ 1023) : n < 2 ^ 10 := Nat.lt_succ_of_le h
      exact (hface 6 (by decide)).trans ((FitsWord.put (h10 haplIn)).or (lo := 16) (by decide) (h10 haplOut)).eq
    · exact (hface 8 (by decide)).trans ((FitsWord.put (Nat.lt_succ_of_le hlive)).or (lo := 16) (n := 8) (by decide)
        (Nat.lt_succ_of_le hclean)).eq
    · exact (hface 9 (by decide)).trans (FitsWord.put (hcount (causeCodes_length hblank))).eq
    · refine (hface (10 + j.val) (by omega)).trans ((?_ : _ = codesWord _ _).trans (codesWord_eq y.causes.blank j.val))
      match j with
      | 0 => rfl
      | 1 => rfl
      | 2 => rfl
    · exact (hface 13 (by decide)).trans (FitsWord.put (hcount (causeCodes_length hderate))).eq
    · refine (hface (14 + j.val) (by omega)).trans ((?_ : _ = codesWord _ _).trans (codesWord_eq y.causes.derate j.val))
      match j with
      | 0 => rfl
      | 1 => rfl
      | 2 => rfl
    · exact (congrArg (fun v : Word => v.toNat % 256) h17).trans hheard
    · exact (congrArg (fun v : Word => v.toNat / 256 % 256) h17).trans hsilent
    · have htop := (congrArg (fun v : Word => v.toNat / 65536 % 256) h17).trans htemp
      exact htop ▸ (hbyte TileEntry.temp).2
    · have htop := (congrArg (fun v : Word => v.toNat / 16777216) h17).trans hopen
      exact htop ▸ (hbyte TileEntry.openCount).2
  · have hchan (k : Nat) (hk : k < 16) : ∃ next, chan k = s.channelWord ch next k := reportRead_channel s ch hk
    obtain ⟨hwindow, hmedian⟩ := (hlight.2 ch).window_fits
    obtain ⟨-, -, -, -, -, hconsec, hsamples, hbad⟩ := hlight.2 ch
    refine ⟨?_, ?_, ?_, ?_, ?_, fun h6 h16 => ?_⟩
    · obtain ⟨next, h⟩ := hchan 1 (by decide)
      refine h.trans (((((FitsWord.put ch.isLt).orBit (k := 2) (lo := 4) (by decide) _).orBit (lo := 5) (by decide) _).or
        (lo := 8) (by decide) hwindow).eq.trans (congrArg _ ?_))
      refine congrArg₂ (· + ·) (congrArg₂ (· + ·) (congrArg _ ?_) (toNat_mul _ _)) rfl
      cases s.light.channels[ch].state <;> rfl
    · obtain ⟨next, h⟩ := hchan 2 (by decide)
      exact h.trans (FitsWord.put (Nat.lt_succ_of_le hmedian)).eq
    · obtain ⟨next, h⟩ := hchan 3 (by decide)
      exact h.trans ((FitsWord.put (Nat.lt_succ_of_le hsamples)).or (lo := 16) (n := 16) (by decide)
        (Nat.lt_succ_of_le hbad)).eq
    · obtain ⟨next, h⟩ := hchan 4 (by decide)
      exact h.trans (FitsWord.put (Nat.lt_succ_of_le (hconsec.trans hbad))).eq
    · obtain ⟨next, h⟩ := hchan 5 (by decide)
      exact h
    · obtain ⟨next, h⟩ := hchan w h16
      exact h.trans (channelWord_of_reserved s ch next h6)

end Sys2Proof.Machine
end

section
/-! SUPPORT. The statements about the immediate words of the policy page, the restart and the reserved offsets (R37,
R39, R42 to R47, R54, R167, R169). -/

namespace Sys2Proof.Machine

/-! ### Rows that are one write beat of the policy page -/

/-- A row that is a write beat at a policy offset, out of reset with the store AWAKE (R34, R37). -/
theorem next_serviceWrite_policy {s : State} (ht : s.takesBus = true) {off : Nat} (h : off < 2048) (data : Word)
    (m : Mask) : (Host.Outcome.next (s.serviceWrite off data m) : Host.Outcome State Fault Refusal) =
      .next ((s.driveStore data m).policyWrite off data m) :=
  congrArg _ (serviceWrite_policy ht h data m)

/-! ### The commit word (R42, R54) -/

/-- A field at bit 0 of a word, taken as a word of its own width. -/
theorem ofNat_bits (w : Word) (lo n : Nat) : BitVec.ofNat n (bits w lo n) = (w >>> lo).setWidth n := by
  apply BitVec.eq_of_toNat_eq
  simp [bits]

/-- A write beat at the commit word (R39, R42). -/
theorem policyWrite_commitWord (s : State) (data : Word) (m : Mask) :
    s.policyWrite 2 data m =
      if m = 0#4 then { s with policy := s.policy.request (data.setWidth 6) ((data >>> 8).setWidth 8) } else s := by
  have hmask : BitVec.ofNat 6 (bits data 0 6) = data.setWidth 6 := (ofNat_bits data 0 6).trans (by simp)
  rw [← hmask, ← ofNat_bits]
  simp only [State.policyWrite, State.immediateWrite, whole_iff]
  rfl

theorem inFlight_iff (p : Policy) : p.inFlight = true ↔ p.status.state = .inFlight := by simp [Policy.inFlight]

/-- With no commit in flight a request starts one (R54). -/
theorem request_of_not_inFlight {p : Policy} (h : p.status.state ≠ .inFlight) (mask : BitVec 6) (seq : Byte) :
    p.request mask seq =
      { p with
        commitWord := { mask := mask, seq := seq }
        status := { seq := seq, state := .inFlight, failure := none, lost := 0 } } :=
  if_neg (mt (inFlight_iff p).mp h)

/-- With a commit in flight a request is refused and counted (R54). -/
theorem request_of_inFlight {p : Policy} (h : p.status.state = .inFlight) (hle : p.refused ≤ 255) (mask : BitVec 6)
    (seq : Byte) : p.request mask seq = { p with refused := min 255 (p.refused + 1) } := by
  rw [← satInc_eq_min hle]
  exact if_pos ((inFlight_iff p).mpr h)

/-- Settles O31: the commit word takes a whole beat alone, and then as the commit in flight says. -/
theorem commitRequests : Obligations.CommitRequests := by
  intro s data m ht s'
  have hwrite := next_serviceWrite_policy ht (off := 2) (by decide) data m
  refine ⟨fun hm hidle => ?_, fun hm hflight hle => ?_, fun hm => ?_⟩ <;>
    refine hwrite.trans (congrArg _ ((policyWrite_commitWord s' data m).trans ?_))
  · rw [if_pos hm, request_of_not_inFlight (p := s'.policy) hidle]
  · rw [if_pos hm, request_of_inFlight (p := s'.policy) hflight hle]
  · exact if_neg hm

/-! ### The restart (R43, R167) -/

/-- A write beat at the restart word (R39, R43). -/
theorem policyWrite_restartWord (s : State) (data : Word) (m : Mask) :
    s.policyWrite 3 data m = if m = 0#4 ∧ data.getLsbD 0 = true then s.requestRestart else s := by
  simp only [State.policyWrite, State.immediateWrite, whole_iff, ite_and]
  rfl

/-- The shares of one face (R124, R136, R156). -/
theorem restart_face (s : State) (f : Fin 8) :
    s.restart.faces[f] =
      { s.faces[f] with
        causes := { blank := [], derate := [], clean := 0 }
        scan := { s.faces[f].scan with state := .noSignal, timer := .stopped, liveWrites := 0 }
        pixel := if s.configured f then
            { s.faces[f].pixel with frameOpen := false, count := 0, sumIn := 0, sumOut := 0, aplFactor := 4096 }
          else s.faces[f].pixel } :=
  tabulate_get (fun f => s.faces[f].restart (s.configured f)) f

/-- Settles O37: a request acts, waits or is absorbed by the read-return queue and the pending flag; the restart
itself goes block by block. -/
theorem monitorRestarts : Obligations.MonitorRestarts := by
  intro s data m s'
  have hwrite (ht : s.takesBus = true) :
      exec (.restartRequest data m) s = .next (if m = 0#4 ∧ data.getLsbD 0 = true then s'.requestRestart else s') :=
    (next_serviceWrite_policy ht (off := 3) (by decide) data m).trans
      (congrArg _ (policyWrite_restartWord s' data m))
  obtain ⟨hch, -, htile⟩ := held_entries s.straps s.bus s.choices s.pending
  refine ⟨fun ht hm hbit hpend hq => ?_, fun ht hm hbit hpend hq => ?_, fun ht hno => ?_, fun hr hq => ?_, fun hq => ?_,
    rfl, fun ch => ?_, rfl, fun f i => ?_, rfl, rfl, restart_face s, rfl⟩
  · rw [hwrite ht, if_pos ⟨hm, hbit⟩]
    have hpend' : ¬ s'.report.restartPending = true := by simp [s', hpend]
    have hq' : s'.tracker.queue.isEmpty = true := by simp [s', hq]
    exact congrArg _ ((if_neg hpend').trans (if_pos hq'))
  · rw [hwrite ht, if_pos ⟨hm, hbit⟩]
    have hpend' : ¬ s'.report.restartPending = true := by simp [s', hpend]
    have hq' : ¬ s'.tracker.queue.isEmpty = true := by simpa [s'] using hq
    exact congrArg _ ((if_neg hpend').trans (if_neg hq'))
  · rw [hwrite ht]
    rcases hno with hm | hbit | hpend
    · rw [if_neg fun h => hm h.1]
    · rw [if_neg fun h => Bool.false_ne_true (hbit.symm.trans h.2)]
    · have habsorbed : s'.requestRestart = s' := if_pos hpend
      rw [habsorbed, ite_self]
  · exact congrArg _ (if_neg (by simp [hr, hq]))
  · exact congrArg _ (if_pos (by simp [hq]))
  · exact (hch ch).symm ▸ (by decide : Channel.reset.AtReset)
  · exact (htile f i).symm ▸ (by decide : TileEntry.reset.Cleared)

/-! ### Reserved offsets (R37, R39, R162, R169) -/

/-- A write beat at an offset of the policy page that no word has. -/
theorem policyWrite_of_reserved (s : State) {off : Nat} (h : 12 ≤ off) (hnone : stagedAddr off = none) (data : Word)
    (m : Mask) : s.policyWrite off data m = s := by
  have himm : s.immediateWrite off data = s := by
    rw [State.immediateWrite, if_neg (by omega), if_neg (by omega), if_neg (by omega), if_neg (by omega),
      if_neg (by omega)]
  rw [State.policyWrite, himm, ite_self, hnone]
  exact ite_self s

/-- A reserved offset by its page. -/
theorem reservedOffset_cases {off : Nat} (h : reservedOffset off = true) :
    (off < 2048 ∧ 12 ≤ off ∧ stagedAddr off = none) ∨
      (2048 ≤ off ∧ (off - 2048 < 1032 ∨ 1288 ≤ off - 2048 ∨ 2 ≤ (off - 2048) % 8)) := by
  unfold reservedOffset at h
  split at h
  · simp at h
  · split at h
    · exact .inl ⟨by omega, by omega, Option.isNone_iff_eq_none.mp h⟩
    · simp only [Bool.not_eq_true', Bool.and_eq_false_iff, decide_eq_false_iff_not] at h
      omega

/-- Settles O38: a reserved offset reaches no word of either page. -/
theorem reservedWrites : Obligations.ReservedWrites := by
  intro s off data m ht hwf
  refine congrArg _ ((serviceWrite_of_takesBus s off.val data m ht).trans ?_)
  rcases reservedOffset_cases hwf with ⟨hpage, h12, hnone⟩ | ⟨hpage, hrow⟩
  · rw [if_pos hpage]
    exact policyWrite_of_reserved _ h12 hnone data m
  · rw [if_neg (by omega)]
    exact reportWrite_of_no_row _ hrow data m

end Sys2Proof.Machine
end

section
/-! SUPPORT. The statements about the face mode words and about frame completions (R39, R44 to R47, R98, R117, R133,
R151 to R153). -/

namespace Sys2Proof.Machine

/-! ### A face's mode word (R44 to R46) -/

theorem faceModeWord_of_unconfigured {s : State} {f : Fin 8} (h : s.configured f = false) (w : Word) :
    s.faceModeWord f w = s := if_pos (by simp [h])

theorem faceModeWord_of_mode {s : State} {f : Fin 8} (h : s.configured f = true) {w : Word} {x : Mode}
    (hw : bits w 0 3 = x.code) : s.faceModeWord f w = s.modeWrite f x (w.getLsbD 3) := by
  rw [State.faceModeWord, if_neg (by simp [h]), hw]
  cases x <;> rfl

theorem faceModeWord_of_release {s : State} {f : Fin 8} (h : s.configured f = true) {w : Word} (hw : bits w 0 3 = 7) :
    s.faceModeWord f w = s.releaseFace f := by
  rw [State.faceModeWord, if_neg (by simp [h]), if_pos hw]

/-- A mode other than DARK sets the mode and the catch-up flag alone (R44). -/
theorem modeWrite_of_ne_dark (s : State) (f : Fin 8) {x : Mode} (hx : x ≠ .dark) (up : Bool) :
    s.modeWrite f x up =
      s.modFace f fun y => { y with mode := x, level := { y.level with catchUp := x == .run && up } } := by
  have hface (y : FaceState) :
      y.modeWrite x up = { y with mode := x, level := { y.level with catchUp := x == .run && up } } :=
    if_neg (by simp [hx])
  simp only [State.modeWrite, hface]
  exact if_neg (by simp [hx])

/-- A row that writes a mode word (R44). -/
theorem next_serviceWrite_modeWord {s : State} (ht : s.takesBus = true) (f : Fin 8) (code : Fin 8) (up : Bool)
    (m : Mask) :
    (Host.Outcome.next (s.serviceWrite (4 + f.val) (modeWord code.val up) m) : Host.Outcome State Fault Refusal) =
      .next (if m = 0#4 then
          (s.driveStore (BitVec.ofNat 32 (code.val + 8 * up.toNat)) m).faceModeWord f (modeWord code.val up)
        else s.driveStore (BitVec.ofNat 32 (code.val + 8 * up.toNat)) m) := by
  rw [next_serviceWrite_policy ht (by omega), policyWrite_faceMode, (modeWord_fields code up).1]
  simp only [whole_iff]

/-- Settles O35: a mode word takes a whole beat of a configured face alone, and RUN alone keeps the catch-up flag. -/
theorem faceModeWrites : Obligations.FaceModeWrites := by
  intro s f up m ht word s' set
  have hrow := fun code => next_serviceWrite_modeWord ht f code up m
  refine ⟨fun hm hf => ?_, fun hno => ?_⟩
  · have hset {x : Mode} (hx : x ≠ .dark) (code : Fin 8) (hcode : code.val = x.code) :
        Host.Outcome.next (s.serviceWrite (4 + f.val) (modeWord code.val up) m) =
          (.next { s' code.val with faces := set x (x == .run && up) } : Host.Outcome State Fault Refusal) := by
      obtain ⟨-, hbits, hup⟩ := modeWord_fields code up
      refine (hrow code).trans (congrArg _ ?_)
      rw [if_pos hm, faceModeWord_of_mode (by exact hf) (hbits.trans hcode), modeWrite_of_ne_dark _ f hx, hup]
      rfl
    exact ⟨hset (x := .run) (by decide) 1 rfl, hset (x := .hold) (by decide) 2 rfl,
      hset (x := .blank) (by decide) 3 rfl⟩
  · have hkeep (code : Fin 8) : Host.Outcome.next (s.serviceWrite (4 + f.val) (modeWord code.val up) m) =
        (.next (s' code.val) : Host.Outcome State Fault Refusal) := by
      refine (hrow code).trans (congrArg _ ?_)
      rcases hno with hm | hf
      · exact if_neg hm
      · rw [faceModeWord_of_unconfigured (by exact hf), ite_self]
        rfl
    exact ⟨hkeep 1, hkeep 2, hkeep 3, hkeep 4, hkeep 7⟩

/-! ### DARK and RELEASE (R45, R98, R117, R133, R153) -/

/-- A face at its entry to DARK: the shares of the Level Engine, the Scan Supervisor and the Pixel Scaler. -/
def FaceState.entersDark (x : FaceState) : FaceState :=
  { x with
    mode := .dark
    level := { held := 0, catchUp := false, light := none, curve := 0, cap := 0, target := 0 }
    scan := { x.scan with state := .noSignal, timer := .stopped }
    pixel := { x.pixel with frameOpen := false, count := 0, sumIn := 0, sumOut := 0 } }

theorem modeWrite_dark_of_entry {x : FaceState} (h : x.mode ≠ .dark) (up : Bool) :
    x.modeWrite .dark up = x.entersDark := if_pos (by simp [h])

theorem modeWrite_dark_of_dark {x : FaceState} (h : x.mode = .dark) (up : Bool) :
    x.modeWrite .dark up = { x with level := { x.level with catchUp := false } } := by
  obtain ⟨mode, level, pixel, scan, causes⟩ := x
  cases h
  rfl

/-- A face of the state changed twice is changed once. -/
theorem modFace_modFace (s : State) (f : Fin 8) (g h : FaceState → FaceState) :
    (s.modFace f g).modFace f h = s.modFace f (h ∘ g) := by
  simp [State.modFace]

/-- The end of a stall is a change of the face and of what waits. -/
theorem endStall_modFace (s : State) (f : Fin 8) (g : FaceState → FaceState) :
    (s.modFace f g).endStall f =
      { s.modFace f (fun x => (g x).stallEnded f) with
        inbox := putBehindLast (Notice.isStallOnset f) (.stallEnded f) s.inbox } := by
  have hface : ((s.modFace f g).takeStallEnded f) = s.modFace f fun x => (g x).stallEnded f :=
    modFace_modFace s f g (·.stallEnded f)
  rw [State.endStall, hface]
  rfl

/-- A write of DARK changes the face, and ends the stall of one that was STALLED before. -/
theorem modeWrite_dark_eq (s : State) (f : Fin 8) (up : Bool) :
    s.modeWrite f .dark up =
      if s.faces[f].mode ≠ .dark ∧ s.faces[f].scan.state = .stalled then
        (s.modFace f (·.modeWrite .dark up)).endStall f
      else s.modFace f (·.modeWrite .dark up) := by
  simp only [State.modeWrite, decide_true, Bool.true_and, Bool.and_eq_true, bne_iff_ne, beq_iff_eq]

/-- A face in DARK stays as it is but for its catch-up flag. -/
theorem modeWrite_of_dark {s : State} {f : Fin 8} (h : s.faces[f].mode = .dark) (up : Bool) :
    s.modeWrite f .dark up =
      { s with faces := s.faces.set f { s.faces[f] with level := { s.faces[f].level with catchUp := false } } } := by
  rw [← modeWrite_dark_of_dark h up, modeWrite_dark_eq, if_neg fun hc => hc.1 h]
  rfl

/-- An entry to DARK of a face that is not STALLED. -/
theorem modeWrite_of_entry {s : State} {f : Fin 8} (h : s.faces[f].mode ≠ .dark)
    (hs : s.faces[f].scan.state ≠ .stalled) (up : Bool) :
    s.modeWrite f .dark up = { s with faces := s.faces.set f s.faces[f].entersDark } := by
  rw [← modeWrite_dark_of_entry h up, modeWrite_dark_eq, if_neg fun hc => hs hc.2]
  rfl

/-- An entry to DARK of a STALLED face ends its stall (R133, R151). -/
theorem modeWrite_of_entry_stalled {s : State} {f : Fin 8} (h : s.faces[f].mode ≠ .dark)
    (hs : s.faces[f].scan.state = .stalled) (up : Bool) :
    s.modeWrite f .dark up =
      { s with
        faces := s.faces.set f (s.faces[f].entersDark.stallEnded f)
        inbox := putBehindLast (Notice.isStallOnset f) (.stallEnded f) s.inbox } := by
  rw [← modeWrite_dark_of_entry h up, modeWrite_dark_eq, if_pos ⟨h, hs⟩]
  exact endStall_modFace s f _

/-- The conditions of a face's SCAN STALL made false, cause by cause (R151). -/
theorem setCond_scanStall (f : Fin 8) (cs : List Cause) :
    setCond cs clsScanStall f.val false =
      cs.map fun c => if c.cls = 1 ∧ c.src = f.val then { c with cond := false } else c := by
  refine List.map_congr_left fun c _ => ?_
  simp only [Cause.is, clsScanStall, Bool.and_eq_true, beq_iff_eq]

/-- Settles O36: an entry to DARK by the scan state of the face and what waits of its stall; a RELEASE by its filter. -/
theorem darkAndRelease : Obligations.DarkAndRelease := by
  intro s f up ht hf word s' y waits ended entered released
  have hwaits (n : Notice) : waits n ↔ n.isStallOnset f = true := by
    cases n with
    | record r => rw [isStallOnset_record, Bool.and_eq_true, beq_iff_eq, beq_iff_eq]
    | completion k => exact ⟨False.elim, fun h => (nomatch h)⟩
    | stallEnded k => exact ⟨False.elim, fun h => (nomatch h)⟩
  have hwaitsNot (n : Notice) (h : ¬ waits n) : n.isStallOnset f = false := by
    simpa [hwaits] using h
  have hdark : exec (.dark f up 0#4) s = .next ((s' 4).modeWrite f .dark up) := by
    obtain ⟨-, hbits, hup⟩ := modeWord_fields 4 up
    refine (next_serviceWrite_modeWord ht f 4 up 0#4).trans (congrArg _ ?_)
    rw [if_pos rfl, faceModeWord_of_mode (x := .dark) (by exact hf) hbits, hup]
    rfl
  have hstalled (hd : y.mode ≠ .dark) (hs : y.scan.state = .stalled) : exec (.dark f up 0#4) s =
      .next { entered released with
        inbox := putBehindLast (Notice.isStallOnset f) (.stallEnded f) s.inbox } := by
    have hcauses : y.causes.ended clsScanStall f.val = released := by
      simp only [CauseState.ended, setCond_scanStall]
      rfl
    rw [hdark, modeWrite_of_entry_stalled (s := s' 4) hd hs]
    simp only [FaceState.stallEnded]
    rw [← hcauses]
    rfl
  refine ⟨fun hd hs => ?_, fun hd hs hno => ?_, fun front back n hd hs hin hn hback => ?_, fun hd => ?_, ?_⟩
  · rw [hdark, modeWrite_of_entry (s := s' 4) hd hs]
    rfl
  · rw [hstalled hd hs, putBehindLast_of_none fun n hn => hwaitsNot n (hno n hn)]
  · rw [hstalled hd hs, hin, putBehindLast_of_last front back ((hwaits n).mp hn) fun x hx => hwaitsNot x (hback x hx)]
  · rw [hdark, modeWrite_of_dark (s := s' 4) hd]
  · obtain ⟨-, hbits, -⟩ := modeWord_fields 7 up
    refine (next_serviceWrite_modeWord ht f 7 up 0#4).trans (congrArg _ ?_)
    rw [if_pos rfl, faceModeWord_of_release (by exact hf) hbits]
    rfl

/-! ### Frame completions (R152) -/

theorem any_eq_false {c : CauseState} : c.any = false ↔ c.blank = [] ∧ c.derate = [] := by
  simp [CauseState.any]

theorem anyTrue_iff (c : CauseState) : c.anyTrue = true ↔ ∃ y ∈ c.blank ++ c.derate, y.cond = true := by
  simp [CauseState.anyTrue, or_and_right, exists_or]

theorem completed_of_no_cause {c : CauseState} (hb : c.blank = []) (hd : c.derate = []) (n : Nat) :
    c.completed n = { c with clean := 0 } :=
  if_pos (by rw [any_eq_false.mpr ⟨hb, hd⟩]; rfl)

theorem completed_of_true {c : CauseState} (h : ∃ y ∈ c.blank ++ c.derate, y.cond = true) (n : Nat) :
    c.completed n = c := by
  have hany : ¬ (!c.any) = true := by
    intro hno
    rw [Bool.not_eq_true', any_eq_false] at hno
    simp [hno.1, hno.2] at h
  rw [CauseState.completed, if_neg hany, if_pos ((anyTrue_iff c).mpr h)]

/-- Where no condition stands the automatic release keeps the latched causes. -/
theorem autoRelease_of_false {c : CauseState} (h : ∀ y ∈ c.blank ++ c.derate, y.cond = false) :
    c.autoRelease = { blank := c.blank.filter (·.latch), derate := c.derate.filter (·.latch), clean := 0 } := by
  have hfilter (l : List Cause) (hl : l ⊆ c.blank ++ c.derate) :
      (l.filter fun x => x.latch || x.cond) = l.filter (·.latch) :=
    List.filter_congr fun x hx => by rw [h x (hl hx), Bool.or_false]
  rw [CauseState.autoRelease, hfilter _ (List.subset_append_left _ _), hfilter _ (List.subset_append_right _ _)]

/-- Where causes stand and no condition does, a completion counts, and releases at the clean-frames parameter. -/
theorem completed_of_false {c : CauseState} (hne : c.blank ++ c.derate ≠ [])
    (h : ∀ y ∈ c.blank ++ c.derate, y.cond = false) {n : Nat} (hc : c.clean ≤ 255) (hn : n ≤ 255) :
    c.completed n =
      if n ≤ min 255 (c.clean + 1) then
        { blank := c.blank.filter (·.latch), derate := c.derate.filter (·.latch), clean := 0 }
      else { c with clean := c.clean + 1 } := by
  have hany : ¬ (!c.any) = true := by
    intro hno
    rw [Bool.not_eq_true', any_eq_false] at hno
    simp [hno.1, hno.2] at hne
  have htrue : ¬ c.anyTrue = true := by
    rw [anyTrue_iff]
    rintro ⟨y, hy, hyc⟩
    simp [h y hy] at hyc
  rw [CauseState.completed, if_neg hany, if_neg htrue, autoRelease_of_false h, satInc_eq_min hc]
  split
  · rfl
  · have hcount : min 255 (c.clean + 1) = c.clean + 1 := by omega
    rw [hcount]

/-- The clean-frames parameter is the low half of general parameter 3 (R53). -/
theorem cleanFrames_eq (t : Tables) : t.cleanFrames = t.params[(3 : Fin 7)].toNat % 65536 := by
  simp [Tables.cleanFrames, Tables.param, bits_eq]

/-- Settles O50: a completion by the causes that stand, applied to a configured face with the parameter in force. -/
theorem frameCompletions : Obligations.FrameCompletions := by
  refine ⟨fun c n hc hn => ⟨fun hb hd => completed_of_no_cause hb hd n, fun h => completed_of_true h n,
    fun hne h => completed_of_false hne h hc hn⟩, fun s f => ?_⟩
  rw [← cleanFrames_eq]
  rfl

end Sys2Proof.Machine
end

section
/-! SUPPORT. The statements about the default tables and about the two ends of a commit (R54, R56, R58, R59, R63). -/

namespace Sys2Proof.Machine

/-! ### The default tables (R63) -/

theorem defaultTables_curve (k : Fin 4) (w : Fin 17) : defaultTables.curves[k][w] = defaultCurve k.val w.val := by
  have hrow : defaultTables.curves[k] = tabulate fun w => defaultCurve k.val w.val := tabulate_get _ k
  rw [hrow, tabulate_get]

theorem defaultCurve_of_rest {k w : Nat} (h : k ≠ 0 ∨ 3 ≤ w) : defaultCurve k w = 0#32 := by
  rcases h with h | h
  · exact if_neg h
  · obtain ⟨j, rfl⟩ := Nat.exists_eq_add_of_le' h
    exact ite_self (0#32)

theorem defaultTables_action (c : Fin 32) : defaultTables.actions[c] = defaultAction c.val := tabulate_get _ c

theorem defaultTables_trim (f : Fin 8) (z : Fin 16) : defaultTables.trim f z = 256 := by
  have hrow : defaultTables.trims[f] = tabulate fun _ => 256#32 := tabulate_get _ f
  rw [Tables.trim, hrow, tabulate_get]
  decide

theorem defaultTables_param (p : Fin 7) : defaultTables.param p = bits (defaultParam p.val) 0 16 := by
  rw [Tables.param]
  exact congrArg (bits · 0 16) (tabulate_get _ p)

/-- Settles O5: each section is built entry by entry; the checks pass on any base; both resets hold the part. -/
theorem defaultTablesAreThoseOfTheRule : Obligations.DefaultTablesAreThoseOfTheRule := by
  intro p
  have hheld (straps : Option Straps) (bus : BusOut) (n : Nat) (cs : List Instr) :
      (State.held straps bus n cs).isConfigured = false ∧ (State.held straps bus n cs).faultLine = true := by
    obtain ⟨-, -, -, -, -, -, -, -, hcfg⟩ := held_busAtReset straps bus n cs
    exact ⟨hcfg, held_faultLine straps bus n cs⟩
  refine ⟨fun f w => ?_, ⟨by decide, by decide, fun w hw => ?_, fun k hk w => ?_⟩, fun e w => ?_, defaultTables_trim,
    fun c => ?_, ⟨?_, ?_, ?_, ?_, ?_, ?_, ?_⟩, defaultTables_validate _, fun s c hc => ?_⟩
  · have hrow : defaultTables.faces[f] = tabulate fun _ => 0#32 := tabulate_get _ f
    rw [hrow, tabulate_get]
  · rw [defaultTables_curve, defaultCurve_of_rest (.inr hw)]
  · rw [defaultTables_curve, defaultCurve_of_rest (.inl fun h => hk (Fin.ext h))]
  · have hrow : defaultTables.schedule[e] = tabulate fun _ => 0#32 := tabulate_get _ e
    rw [hrow, tabulate_get]
  · rw [Tables.latch, Tables.action, defaultTables_action]
    revert c
    decide
  iterate 7 exact (defaultTables_param _).trans (by decide)
  · rcases hc with rfl | rfl
    · exact ⟨_, rfl, rfl, rfl, (hheld _ _ _ _).1, (hheld _ _ _ _).2⟩
    · exact ⟨_, rfl, rfl, rfl, (hheld _ _ _ _).1, (hheld _ _ _ _).2⟩

/-! ### The ends of a commit (R56, R58, R59) -/

/-- The checks of the commit in flight, with the service area where the straps put it (R56). -/
theorem commitFailure_eq {s : State} {p : Straps} (hp : s.straps = some p) :
    s.commitFailure =
      (resultingSet s.policy.commitWord.mask s.policy.staging s.policy.active).validate (Config.serviceBase p) := by
  rw [State.commitFailure, State.strapImage, hp]
  rfl

/-- In reset or with no commit in flight neither end happens. -/
theorem commit_ends_idle {s : State} (h : s.inReset = true ∨ s.policy.status.state ≠ .inFlight) :
    exec .switch s = .next s ∧ exec .validationFailure s = .next s := by
  have hidle : (s.inReset || !s.policy.inFlight) = true := by
    rw [Bool.or_eq_true, Bool.not_eq_true']
    exact h.imp_right fun h => Bool.eq_false_iff.mpr (mt (inFlight_iff s.policy).mp h)
  exact ⟨congrArg _ (if_pos (by rw [hidle, Bool.true_or])), congrArg _ (if_pos hidle)⟩

theorem exec_validationFailure (s : State) :
    exec .validationFailure s = .next (
      if s.inReset || !s.policy.inFlight then s
      else match s.commitFailure with
        | some why => { s with policy := s.policy.reject why }
        | none => s) := rfl

section
variable {s : State} (hr : s.inReset = false) (hfl : s.policy.status.state = .inFlight)
include hr hfl

/-- A commit in flight whose set fails a check is rejected (R58). -/
theorem commit_ends_of_failure {why : Reason × Sec} (hc : s.commitFailure = some why) :
    exec .switch s = .next s ∧ exec .validationFailure s = .next { s with policy := s.policy.reject why } := by
  refine ⟨congrArg _ (if_pos (by rw [hc]; exact Bool.or_true _)), ?_⟩
  rw [exec_validationFailure, if_neg (by simp [hr, (inFlight_iff s.policy).mpr hfl]), hc]

/-- A commit in flight whose set passes every check is switched (R59). -/
theorem commit_ends_of_pass (hc : s.commitFailure = none) :
    exec .switch s = .next s.switched ∧ exec .validationFailure s = .next s := by
  have hfl := (inFlight_iff s.policy).mpr hfl
  refine ⟨congrArg _ (if_neg (by simp [hr, hfl, hc])), ?_⟩
  rw [exec_validationFailure, if_neg (by simp [hr, hfl]), hc]

end

/-- Settles O33: the checks of the resulting set decide which end happens. -/
theorem commitEnds : Obligations.CommitEnds := by
  intro s p
  refine ⟨commit_ends_idle, ?_⟩
  intro hr hp hfl k result
  have hcheck : s.commitFailure = result.validate (Config.serviceBase p) := commitFailure_eq hp
  rw [← hcheck]
  refine ⟨fun why hc => commit_ends_of_failure hr hfl hc, fun hc => ?_⟩
  obtain ⟨hswitch, hfail⟩ := commit_ends_of_pass hr hfl hc
  refine ⟨hfail, s.switched, hswitch, switched_policy s, ?_⟩
  rw [switched_frame]
  exact ⟨rfl, rfl, rfl, rfl, rfl, rfl, hr⟩

end Sys2Proof.Machine
end

section
/-! SUPPORT. The staged words: the offset, the section and the fields of each, and the statements about what the policy
page reads and what a staging write takes (R37, R38, R40 to R43, R47 to R53, R55, R169, R170). -/

namespace Sys2Proof.Machine

/-! ### Staged words and their offsets (R48 to R53) -/

/-- The policy offset of a staged word. -/
def StagedAddr.offset : StagedAddr → Nat
  | .face f w => 16 + 16 * f.val + w.val
  | .curve k w => 144 + 32 * k.val + w.val
  | .sched e w => 272 + 2 * e.val + w.val
  | .trim f z => 336 + 16 * f.val + z.val
  | .action c => 464 + c.val
  | .param p => 496 + p.val

theorem stagedAddr_face (f : Fin 8) {w : Nat} (hw : w < 16) :
    stagedAddr (16 + 16 * f.val + w) = if h : w < 9 then some (.face f ⟨w, h⟩) else none := by
  have hdiv : (16 + 16 * f.val + w - 16) / 16 = f.val := by omega
  have hmod : (16 + 16 * f.val + w - 16) % 16 = w := by omega
  rw [stagedAddr, if_neg (by omega), if_pos (by omega)]
  simp only [hdiv, hmod, Fin.ofNat_val_eq_self]

theorem stagedAddr_curve (k : Fin 4) {w : Nat} (hw : w < 32) :
    stagedAddr (144 + 32 * k.val + w) = if h : w < 17 then some (.curve k ⟨w, h⟩) else none := by
  have hdiv : (144 + 32 * k.val + w - 144) / 32 = k.val := by omega
  have hmod : (144 + 32 * k.val + w - 144) % 32 = w := by omega
  rw [stagedAddr, if_neg (by omega), if_neg (by omega), if_pos (by omega)]
  simp only [hdiv, hmod, Fin.ofNat_val_eq_self]

theorem stagedAddr_sched (e : Fin 32) (w : Fin 2) : stagedAddr (272 + 2 * e.val + w.val) = some (.sched e w) := by
  have hdiv : (272 + 2 * e.val + w.val - 272) / 2 = e.val := by omega
  have hword : Fin.ofNat 2 (272 + 2 * e.val + w.val - 272) = w := Fin.ext (by simp only [Fin.val_ofNat]; omega)
  rw [stagedAddr, if_neg (by omega), if_neg (by omega), if_neg (by omega), if_pos (by omega), hdiv, hword,
    Fin.ofNat_val_eq_self]

theorem stagedAddr_trim (f : Fin 8) (z : Fin 16) : stagedAddr (336 + 16 * f.val + z.val) = some (.trim f z) := by
  have hdiv : (336 + 16 * f.val + z.val - 336) / 16 = f.val := by omega
  have hword : Fin.ofNat 16 (336 + 16 * f.val + z.val - 336) = z := Fin.ext (by simp only [Fin.val_ofNat]; omega)
  rw [stagedAddr, if_neg (by omega), if_neg (by omega), if_neg (by omega), if_neg (by omega), if_pos (by omega), hdiv,
    hword, Fin.ofNat_val_eq_self]

theorem stagedAddr_action (c : Fin 32) : stagedAddr (464 + c.val) = some (.action c) := by
  rw [stagedAddr, if_neg (by omega), if_neg (by omega), if_neg (by omega), if_neg (by omega), if_neg (by omega),
    if_pos (by omega), Nat.add_sub_cancel_left, Fin.ofNat_val_eq_self]

theorem stagedAddr_of_param_page {off : Nat} (h : 496 ≤ off) :
    stagedAddr off = if h : off - 496 < 7 then some (.param ⟨off - 496, h⟩) else none := by
  rw [stagedAddr, if_neg (by omega), if_neg (by omega), if_neg (by omega), if_neg (by omega), if_neg (by omega),
    if_neg (by omega)]

theorem stagedAddr_param (p : Fin 7) : stagedAddr (496 + p.val) = some (.param p) := by
  simp [stagedAddr_of_param_page]

/-- Each staged word is found at its offset. -/
theorem stagedAddr_offset (a : StagedAddr) : stagedAddr a.offset = some a := by
  cases a with
  | face f w => rw [StagedAddr.offset, stagedAddr_face f (by omega), dif_pos w.isLt]
  | curve k w => rw [StagedAddr.offset, stagedAddr_curve k (by omega), dif_pos w.isLt]
  | sched e w => exact stagedAddr_sched e w
  | trim f z => exact stagedAddr_trim f z
  | action c => exact stagedAddr_action c
  | param p => exact stagedAddr_param p

/-- No other offset holds it. -/
theorem offset_of_stagedAddr {off : Nat} {a : StagedAddr} (h : stagedAddr off = some a) : a.offset = off := by
  unfold stagedAddr at h
  split_ifs at h <;> cases h <;> simp only [StagedAddr.offset, Fin.val_ofNat] <;> omega

/-- The staged words lie at 16 to 502. -/
theorem StagedAddr.offset_bounds (a : StagedAddr) : 16 ≤ a.offset ∧ a.offset < 503 := by
  cases a <;> simp only [StagedAddr.offset] <;> omega

/-! ### Reads (R38, R170) -/

/-- The content of an offset beyond the immediate words. -/
theorem policyRead_of_staged (s : State) {off : Nat} (h : 12 ≤ off) :
    s.policyRead off = (stagedAddr off).elim 0#32 s.policy.staging.get := by
  rw [State.policyRead, if_neg (by omega), if_neg (by omega), if_neg (by omega), if_neg (by omega), if_neg (by omega)]
  cases stagedAddr off <;> rfl

/-- A staged word reads as it stands in the staging image. -/
theorem policyRead_offset (s : State) (a : StagedAddr) : s.policyRead a.offset = s.policy.staging.get a := by
  rw [policyRead_of_staged s (by have := a.offset_bounds; omega), stagedAddr_offset]
  rfl

/-- Reads after a change of the staging image and of the lines of the bus. -/
theorem policyRead_setStaging (s : State) (b : BusOut) (g : Tables) (off : Nat) :
    State.policyRead { s with bus := b, policy := { s.policy with staging := g } } off =
      if off < 12 then s.policyRead off else (stagedAddr off).elim 0#32 g.get := by
  by_cases h : off < 12
  · rw [if_pos h]
    unfold State.policyRead
    iterate 4 refine ite_congr rfl (fun _ => rfl) fun _ => ?_
    rw [if_pos h, if_pos h]
    rfl
  · rw [if_neg h, policyRead_of_staged _ (by omega)]

/-- The time word (R40). -/
theorem timeWord {d : TimeOfDay} (hmin : d.minute < 10080) (hms : d.ms < 60000) :
    d.word = if d.set then BitVec.ofNat 32 (d.ms + d.minute * 65536 + 2147483648) else 0#32 := by
  have hmin' : d.minute < 2 ^ 14 := hmin.trans (by decide)
  have hms' : d.ms < 2 ^ 16 := hms.trans (by decide)
  have hfits := ((FitsWord.put hms').or (lo := 16) (by decide) hmin').orBit (lo := 31) (by decide) true
  exact ite_congr rfl (fun _ => hfits.eq) fun _ => rfl

/-- The mode declaration word as it reads (R41). -/
theorem modeImage_word_eq {m : ModeImage} (h : m.latency = 2 ∨ m.latency = 3) :
    m.word = BitVec.ofNat 32 (m.length.code + (m.order == .interleaved).toNat * 2 ^ 3 + m.latency * 2 ^ 4
      + m.writeSingle.toNat * 2 ^ 7 + m.source.code * 2 ^ 8) := by
  have hlen : m.length.code < 2 ^ 3 := by cases m.length <;> decide
  have hsrc : m.source.code < 2 ^ 2 := by cases m.source <;> decide
  have hlat : m.latency < 2 ^ 3 := by omega
  exact (((((FitsWord.put hlen).orBit (by decide) _).or (by decide) hlat).orBit (by decide) _).or (by decide) hsrc).eq

/-- A face's mode word as it reads (R47). -/
theorem policyRead_faceMode (s : State) (f : Fin 8) :
    s.policyRead (4 + f.val) = BitVec.ofNat 32 ((s.shownMode f).code + (s.shownCatchUp f).toNat * 2 ^ 3) := by
  have hf : Fin.ofNat 8 (4 + f.val - 4) = f := by rw [Nat.add_sub_cancel_left]; exact Fin.ofNat_val_eq_self f
  rw [State.policyRead, if_neg (by omega), if_neg (by omega), if_neg (by omega), if_neg (by omega), if_pos (by omega),
    hf]
  exact ((FitsWord.put (modeCode_lt _)).orBit (by decide) _).eq

/-- Settles O30: the immediate words field by field, the staged words by their offsets. -/
theorem policyPageReads : Obligations.PolicyPageReads := by
  intro s f c off htime htracker m d g
  obtain ⟨hmin, hms, -, -⟩ := htime
  obtain ⟨hlat, -⟩ := htracker
  have hread (a : StagedAddr) : s.policyRead a.offset = g.get a := policyRead_offset s a
  refine ⟨timeWord hmin hms, (modeImage_word_eq hlat).trans (congrArg _ ?_), ?_, ?_, fun hf => ?_, fun hf => ?_,
    fun w => ?_, fun k w => ?_, fun w => hread (.sched c w), fun z => hread (.trim f z), hread (.action c),
    fun w => hread (.param w), fun hoff => ?_⟩
  · refine congrArg₂ (· + ·) (congrArg₂ (· + ·) (congrArg₂ (· + ·) (congrArg₂ (· + ·) ?_ ?_) rfl) (toNat_mul _ _)) ?_
    · cases m.length <;> rfl
    · cases m.order <;> rfl
    · cases m.source <;> rfl
  · exact ((FitsWord.put s.policy.commitWord.mask.isLt).or (lo := 8) (by decide) s.policy.commitWord.seq.isLt).eq
  · refine (?_ : s.policyRead 3 = putBit 0 s.report.restartPending).trans ?_
    · rfl
    · cases s.report.restartPending <;> rfl
  · rw [policyRead_faceMode, State.shownMode, if_pos hf, State.shownCatchUp, hf, Bool.true_and, toNat_mul]
    refine congrArg _ (congrArg (· + _) ?_)
    cases s.faces[f].mode <;> rfl
  · rw [policyRead_faceMode, State.shownMode, if_neg (by simp [hf]), State.shownCatchUp, hf]
    rfl
  · rw [policyRead_of_staged s (by omega), stagedAddr_face f w.isLt]
    split <;> rfl
  · rw [policyRead_of_staged s (by omega), stagedAddr_curve k w.isLt]
    split <;> rfl
  · rw [policyRead_of_staged s (by omega)]
    rcases hoff with ⟨-, hlow⟩ | hhigh
    · rw [stagedAddr, if_pos hlow]
      rfl
    · rw [stagedAddr_of_param_page (by omega), dif_neg (by omega)]
      rfl

/-! ### Staging writes (R37, R55, R169) -/

/-- The bits, first and last, of each defined field of a staged word (12.4). -/
def StagedAddr.fields : StagedAddr → List (Nat × Nat)
  | .face _ w =>
    match w.val with
    | 0 => [(0, 2), (4, 5), (8, 11)]
    | 1 => [(0, 23)]
    | 2 => [(0, 23)]
    | 3 => [(0, 11), (16, 26)]
    | 4 => [(0, 3)]
    | 5 => [(0, 31)]
    | 6 => [(0, 15)]
    | 7 => [(0, 11), (16, 27)]
    | _ => [(0, 9)]
  | .curve _ w => if w.val = 0 then [(0, 4)] else [(0, 28)]
  | .sched _ w => if w.val = 0 then [(0, 0), (8, 29)] else [(0, 15)]
  | .trim _ _ => [(0, 8)]
  | .action _ => [(0, 1), (8, 8)]
  | .param _ => [(0, 15)]

/-- The bits set in a word are those of the fields. -/
abbrev HasFields (w : Word) (fields : List (Nat × Nat)) : Prop :=
  ∀ i : Fin 32, w.getLsbD i.val = fields.any fun (lo, hi) => decide (lo ≤ i.val ∧ i.val ≤ hi)

/-- The defined bits of a staged word are those of its fields, whatever face, curve or entry it belongs to. -/
theorem definedBits_hasFields (a : StagedAddr) : HasFields (definedBits a) a.fields := by
  cases a with
  | face f w => exact (by decide : ∀ w, HasFields (definedBits (.face 0 w)) (StagedAddr.face 0 w).fields) w
  | curve k w => exact (by decide : ∀ w, HasFields (definedBits (.curve 0 w)) (StagedAddr.curve 0 w).fields) w
  | sched e w => exact (by decide : ∀ w, HasFields (definedBits (.sched 0 w)) (StagedAddr.sched 0 w).fields) w
  | trim f z => exact (by decide : HasFields (definedBits (.trim 0 0)) (StagedAddr.trim 0 0).fields)
  | action c => exact (by decide : HasFields (definedBits (.action 0)) (StagedAddr.action 0).fields)
  | param p => exact (by decide : HasFields (definedBits (.param 0)) (StagedAddr.param 0).fields)

theorem get_put_self (t : Tables) (a : StagedAddr) (v : Word) : (t.put a v).get a = v := by
  cases a <;> simp [Tables.put, Tables.get]

/-- An entry of another place of a vector of words. -/
theorem getElem_set_of_ne {n : Nat} {v : Vector Word n} {i j : Fin n} (h : j ≠ i) (x : Word) :
    (v.set i x)[j] = v[j] := by
  have hv : i.val ≠ j.val := fun hv => h (Fin.ext hv.symm)
  simp [hv]

/-- An entry of another place of a table of rows. -/
theorem getElem_setRow_of_ne {n k : Nat} {v : Vector (Vector Word k) n} {i j : Fin n} {a b : Fin k}
    (h : ¬ (j = i ∧ b = a)) (x : Word) : (v.set i (v[i].set a x))[j][b] = v[j][b] := by
  by_cases hij : j = i
  · subst hij
    have hrow : (v.set j (v[j].set a x))[j] = v[j].set a x := by simp
    rw [hrow, getElem_set_of_ne fun hba => h ⟨rfl, hba⟩]
  · have hv : i.val ≠ j.val := fun hv => hij (Fin.ext hv.symm)
    simp [hv]

/-- A word put at one place leaves every other place. -/
theorem get_put_of_ne {a b : StagedAddr} (h : b ≠ a) (t : Tables) (v : Word) : (t.put a v).get b = t.get b := by
  cases a with
  | face f w =>
    cases b with
    | face g x => exact getElem_setRow_of_ne (fun e => h (by rw [e.1, e.2])) v
    | _ => rfl
  | curve k w =>
    cases b with
    | curve g x => exact getElem_setRow_of_ne (fun e => h (by rw [e.1, e.2])) v
    | _ => rfl
  | sched k w =>
    cases b with
    | sched g x => exact getElem_setRow_of_ne (fun e => h (by rw [e.1, e.2])) v
    | _ => rfl
  | trim k w =>
    cases b with
    | trim g x => exact getElem_setRow_of_ne (fun e => h (by rw [e.1, e.2])) v
    | _ => rfl
  | action k =>
    cases b with
    | action g => exact getElem_set_of_ne (fun e => h (by rw [e])) v
    | _ => rfl
  | param k =>
    cases b with
    | param g => exact getElem_set_of_ne (fun e => h (by rw [e])) v
    | _ => rfl

/-- A bit of a staged word after a lane-wise write (R37, R169). -/
theorem getLsbD_get_merge (t : Tables) (a : StagedAddr) (data : Word) (m : Mask) (i : Fin 32) :
    ((t.merge a data m).get a).getLsbD i.val =
      if m.getLsbD (i.val / 8) then (t.get a).getLsbD i.val
      else data.getLsbD i.val && a.fields.any fun (lo, hi) => decide (lo ≤ i.val ∧ i.val ≤ hi) := by
  rw [Tables.merge, get_put_self, getLsbD_mergeLanes, BitVec.getLsbD_and, definedBits_hasFields a i]

/-- A write beat at a staged word. -/
theorem policyWrite_offset (s : State) (a : StagedAddr) (data : Word) (m : Mask) :
    s.policyWrite a.offset data m = { s with policy := s.policy.stage a data m } := by
  have hoff : ¬ a.offset < 16 := Nat.not_lt.mpr a.offset_bounds.1
  rw [State.policyWrite, if_neg hoff, stagedAddr_offset]

theorem stage_of_unlocked {p : Policy} {a : StagedAddr} (h : p.locked a.sec = false) (data : Word) (m : Mask) :
    p.stage a data m = { p with staging := p.staging.merge a data m } := if_pos (by rw [h]; rfl)

/-- A write to a locked word is lost, and counted unless wholly masked (R55). -/
theorem stage_of_locked {p : Policy} {a : StagedAddr} (h : p.locked a.sec = true) (hlost : p.status.lost ≤ 255)
    (data : Word) (m : Mask) :
    p.stage a data m =
      { p with
        status := { p.status with lost := if m = 0xF#4 then p.status.lost else min 255 (p.status.lost + 1) } } := by
  rw [Policy.stage, if_neg (by rw [h]; decide), ← satInc_eq_min hlost]
  simp only [allMasked, beq_iff_eq]
  split <;> rfl

/-- Settles O28: a staged word is the one its offset names; it is merged lane by lane, or lost to its section's lock. -/
theorem stagingWrites : Obligations.StagingWrites := by
  intro s off a data m place sec fields ht hoff
  have hplace : place = (a.sec, a.offset, a.fields) := by cases a <;> rfl
  have hsec : sec = a.sec := congrArg Prod.fst hplace
  have hfields : fields = a.fields := congrArg (·.2.2) hplace
  have hoff : off.val = a.offset := hoff.trans (congrArg (·.2.1) hplace)
  rw [hsec, hfields]
  have hwrite : exec (.stagingWrite off data m) s =
      .next { s.driveStore data m with policy := s.policy.stage a data m } :=
    (next_serviceWrite_policy ht off.isLt data m).trans (congrArg _ (hoff ▸ policyWrite_offset _ a data m))
  refine ⟨fun hopen => ?_, fun hlock hlost => ?_⟩
  · rw [stage_of_unlocked hopen] at hwrite
    have hread := policyRead_setStaging s (s.driveStore data m).bus (s.policy.staging.merge a data m)
    refine ⟨_, hwrite, rfl, fun i => ?_, fun o ho => ?_⟩
    · rw [hoff, policyRead_offset, policyRead_offset]
      exact getLsbD_get_merge _ a data m i
    · refine (hread o.val).trans ?_
      split
      · rfl
      · rw [policyRead_of_staged s (by omega)]
        cases hb : stagedAddr o.val with
        | none => rfl
        | some b =>
          refine get_put_of_ne ?_ _ _
          rintro rfl
          exact ho (Fin.ext ((offset_of_stagedAddr hb).symm.trans hoff.symm))
  · rw [hwrite, stage_of_locked hlock hlost]
    rfl

end Sys2Proof.Machine
end

section
/-! SUPPORT. The checks of a commit, each as what makes it fail, and the first failure of a section (R56, R57). -/

namespace Sys2Proof.Machine

/-! ### The first that fails (R57) -/

theorem firstFailure_cons {α : Type} (check : α → Option Reason) (x : α) (l : List α) :
    firstFailure check (x :: l) = (check x).or (firstFailure check l) := by
  rw [firstFailure]
  cases check x <;> rfl

theorem firstFailure_eq_some {n : Nat} {check : Fin n → Option Reason} {why : Reason} {l : List (Fin n)}
    (hl : l.Pairwise (· < ·)) :
    firstFailure check l = some why ↔
      ∃ x ∈ l, check x = some why ∧ ∀ y ∈ l, y < x → check y = none := by
  induction l with
  | nil => simp [firstFailure]
  | cons z l ih =>
    obtain ⟨hz, hl⟩ := List.pairwise_cons.mp hl
    cases h : check z with
    | some r =>
      rw [firstFailure_cons, h, Option.some_or]
      refine ⟨fun hr => ⟨z, List.mem_cons_self, h.trans hr, fun y hy hlt => ?_⟩, ?_⟩
      · rcases List.mem_cons.mp hy with rfl | hy
        · exact absurd hlt (lt_irrefl y)
        · exact absurd hlt (hz y hy).asymm
      · rintro ⟨x, hx, hcheck, hbelow⟩
        rcases List.mem_cons.mp hx with rfl | hx
        · exact h.symm.trans hcheck
        · have hnone := hbelow z List.mem_cons_self (hz x hx)
          rw [h] at hnone
          cases hnone
    | none =>
      rw [firstFailure_cons, h, Option.none_or, ih hl]
      refine ⟨?_, ?_⟩
      · rintro ⟨x, hx, hcheck, hbelow⟩
        refine ⟨x, List.mem_cons_of_mem _ hx, hcheck, fun y hy hlt => ?_⟩
        rcases List.mem_cons.mp hy with rfl | hy
        · exact h
        · exact hbelow y hy hlt
      · rintro ⟨x, hx, hcheck, hbelow⟩
        rcases List.mem_cons.mp hx with rfl | hx
        · rw [h] at hcheck
          cases hcheck
        · exact ⟨x, hx, hcheck, fun y hy => hbelow y (List.mem_cons_of_mem _ hy)⟩

/-- The first failure among all entries in their order. -/
theorem firstFailure_finRange {n : Nat} {check : Fin n → Option Reason} {why : Reason} :
    firstFailure check (List.finRange n) = some why ↔ ∃ x, check x = some why ∧ ∀ y, y < x → check y = none := by
  rw [firstFailure_eq_some (List.pairwise_lt_finRange n)]
  simp

theorem firstFailure_finRange_none {n : Nat} {check : Fin n → Option Reason} :
    firstFailure check (List.finRange n) = none ↔ ∀ x, check x = none := by
  simp [firstFailure_eq_none]

/-- Checks that all give one reason fail where one of them does. -/
theorem firstFailure_of_one_reason {α : Type} {check : α → Option Reason} {r : Reason} {l : List α} {bad : α → Prop}
    [DecidablePred bad] (h : ∀ x, check x = if bad x then some r else none) {fails : Prop} [Decidable fails]
    (hfails : (∃ x ∈ l, bad x) ↔ fails) : firstFailure check l = if fails then some r else none := by
  have hnone : firstFailure check l = none ↔ ¬ fails := by
    rw [firstFailure_eq_none, ← hfails]
    simp [h]
  have hsome : firstFailure check l = none ∨ firstFailure check l = some r := by
    clear hnone hfails
    induction l with
    | nil => exact .inl rfl
    | cons x l ih => by_cases hx : bad x <;> simp [firstFailure_cons, h x, hx, ih]
  by_cases hf : fails
  · rw [if_pos hf]
    exact hsome.resolve_left fun hno => hnone.mp hno hf
  · rw [if_neg hf, hnone.mpr hf]

theorem failUnless_eq (ok : Bool) (r : Reason) : failUnless ok r = if ok = false then some r else none := by
  cases ok <;> rfl

/-! ### Fields (12.4) -/

/-- A flag of a word, as a field of one bit. -/
theorem getLsbD_eq_field (w : Word) (i : Nat) : w.getLsbD i = decide (w.toNat / 2 ^ i % 2 ^ 1 = 1) := by
  rw [BitVec.getLsbD, Nat.testBit_eq_decide_div_mod_eq]
  rfl

/-! ### Section F (R48, R56) -/

/-- Two extents have a word in common where the greater base lies below the lesser end. -/
theorem overlap_iff (a b : Nat × Nat) : overlap a b = true ↔ max a.1 b.1 < min (a.1 + a.2) (b.1 + b.2) := by
  simp only [overlap, Bool.and_eq_true, decide_eq_true_eq]
  omega

/-- The first words of a record's buffers. -/
def FaceRecord.bases (r : FaceRecord) : List Nat := r.baseA :: r.baseB.toList

/-- The words of one buffer of a record. -/
def FaceRecord.size (r : FaceRecord) : Nat := r.height * r.stride

theorem extents_eq (r : FaceRecord) : r.extents = r.bases.map fun b => (b, r.size) := by
  cases h : r.baseB <;> simp [FaceRecord.extents, FaceRecord.bases, FaceRecord.size, h]

theorem geometryOk_and_inStore_iff (r : FaceRecord) :
    (r.geometryOk && r.inStore) = true ↔
      (1 ≤ r.width ∧ r.width ≤ 2048) ∧ (1 ≤ r.height ∧ r.height ≤ 1024) ∧ (6 ≤ r.strideExp ∧ r.strideExp ≤ 11) ∧
        r.width ≤ r.stride ∧ ∀ b ∈ r.bases, b + r.size ≤ 16777216 := by
  have hstore : r.inStore = true ↔ ∀ b ∈ r.bases, b + r.size ≤ 16777216 := by
    rw [FaceRecord.inStore, extents_eq, List.all_map, List.all_eq_true]
    exact forall₂_congr fun b _ => decide_eq_true_iff
  rw [Bool.and_eq_true, hstore]
  simp only [FaceRecord.geometryOk, Bool.and_eq_true, decide_eq_true_eq, and_assoc]

theorem selfApart_iff (r : FaceRecord) :
    r.selfApart = false ↔ ∃ b ∈ r.bases.tail, max b r.baseA < min (b + r.size) (r.baseA + r.size) := by
  unfold FaceRecord.selfApart FaceRecord.bases
  cases r.baseB with
  | none => simp
  | some b => simp [overlap_iff, FaceRecord.size]

theorem apart_iff (r q : FaceRecord) :
    r.apart q = false ↔ ∃ a ∈ r.bases, ∃ b ∈ q.bases, max a b < min (a + r.size) (b + q.size) := by
  simp [FaceRecord.apart, extents_eq, List.all_map, overlap_iff]

theorem lowerFaces_iff (t : Tables) (f : Fin 8) (r : FaceRecord) :
    (t.lowerFaces f).all r.apart = false ↔ ∃ g < f, (t.face g).enabled = true ∧ r.apart (t.face g) = false := by
  simp [Tables.lowerFaces, mem_allFaces]

theorem inService_iff (r : FaceRecord) (base : Nat) :
    (r.extents.all fun e => !overlap e (base, 4096)) = false ↔
      ∃ b ∈ r.bases, max b base < min (b + r.size) (base + 4096) := by
  simp [extents_eq, List.all_map, overlap_iff]

/-- The checks of a record, each as what makes it fail. -/
theorem checkFace_eq {t : Tables} {f : Fin 8} {r : FaceRecord} (hr : t.face f = r) (base : Nat) :
    t.checkFace base f =
      if ¬ r.enabled = true then none
      else if ¬ ((1 ≤ r.width ∧ r.width ≤ 2048) ∧ (1 ≤ r.height ∧ r.height ≤ 1024) ∧
          (6 ≤ r.strideExp ∧ r.strideExp ≤ 11) ∧ r.width ≤ r.stride ∧ ∀ b ∈ r.bases, b + r.size ≤ 16777216) then
        some .faceGeometry
      else if (∃ b ∈ r.bases.tail, max b r.baseA < min (b + r.size) (r.baseA + r.size)) ∨
          (∃ g < f, (t.face g).enabled = true ∧
            ∃ a ∈ r.bases, ∃ b ∈ (t.face g).bases, max a b < min (a + r.size) (b + (t.face g).size)) then
        some .faceOverlap
      else if ∃ b ∈ r.bases, max b base < min (b + r.size) (base + 4096) then some .faceInService
      else if t.curveCount r.curve = 0 then some .faceCurveUnused
      else if r.rise = 0 ∨ r.fall = 0 ∨ r.fast = 0 then some .rateZero
      else none := by
  subst hr
  rw [Tables.checkFace, failUnless_eq]
  refine if_congr (by simp) rfl (if_congr ?_ rfl (if_congr ?_ rfl (if_congr ?_ rfl (if_congr Iff.rfl rfl
    (if_congr ?_ rfl rfl)))))
  · rw [← geometryOk_and_inStore_iff, Bool.not_eq_true', Bool.not_eq_true]
  · rw [Bool.not_eq_true', Bool.and_eq_false_iff, selfApart_iff, lowerFaces_iff]
    simp only [apart_iff]
  · rw [Bool.not_eq_true', inService_iff]
  · simp [or_assoc, imp_iff_not_or]

/-! ### Section C (R49, R56) -/

/-- Points in order: levels within 4,095, and codes rising and levels not falling from each to every later one. -/
theorem pointsOk_iff (l : List (Nat × Nat)) :
    pointsOk l = true ↔ (∀ p ∈ l, p.2 ≤ 4095) ∧ l.Pairwise fun p q => p.1 < q.1 ∧ p.2 ≤ q.2 := by
  have htrans : ∀ {p q r : Nat × Nat}, p.1 < q.1 ∧ p.2 ≤ q.2 → q.1 < r.1 ∧ q.2 ≤ r.2 → p.1 < r.1 ∧ p.2 ≤ r.2 := by
    omega
  induction l with
  | nil => simp [pointsOk]
  | cons p l ih =>
    cases l with
    | nil => simp [pointsOk]
    | cons q l =>
      simp only [pointsOk, Bool.and_eq_true, decide_eq_true_eq, ih]
      constructor
      · rintro ⟨⟨⟨hp, hcode⟩, hlevel⟩, hle, hpair⟩
        refine ⟨List.forall_mem_cons.mpr ⟨hp, hle⟩, List.pairwise_cons.mpr ⟨fun r hr => ?_, hpair⟩⟩
        rcases List.mem_cons.mp hr with rfl | hr
        · exact ⟨hcode, hlevel⟩
        · exact htrans ⟨hcode, hlevel⟩ (List.rel_of_pairwise_cons hpair hr)
      · rintro ⟨hle, hpair⟩
        obtain ⟨hp, hle⟩ := List.forall_mem_cons.mp hle
        obtain ⟨hfirst, hpair⟩ := List.pairwise_cons.mp hpair
        obtain ⟨hcode, hlevel⟩ := hfirst q List.mem_cons_self
        exact ⟨⟨⟨hp, hcode⟩, hlevel⟩, hle, hpair⟩

theorem curvePoints_length (t : Tables) (k : Fin 4) : (t.curvePoints k).length = min 16 (t.curveCount k) := by
  simp [Tables.curvePoints, Nat.min_comm]

theorem curvePoints_get (t : Tables) (k : Fin 4) {i : Fin 16} (hi : i.val < t.curveCount k) :
    (t.curvePoints k)[i.val]? = some (pointOf t.curves[k][i.succ]) := by
  rw [Tables.curvePoints, List.getElem?_map, List.getElem?_take_of_lt hi, List.getElem?_drop, Vector.getElem?_toList]
  have hlt : 1 + i.val < 17 := by omega
  rw [Vector.getElem?_eq_getElem hlt, Option.map_some]
  simp [Nat.add_comm]

/-- The points of a curve of at most 16 fail where one of them is too high, or a later one has not the greater code or
has the lesser level. -/
theorem pointsOk_curvePoints (t : Tables) (k : Fin 4) (h : t.curveCount k ≤ 16) :
    pointsOk (t.curvePoints k) = false ↔
      ∃ i : Fin 16, i.val < t.curveCount k ∧ (4095 < (pointOf t.curves[k][i.succ]).2 ∨
        ∃ j : Fin 16, i < j ∧ j.val < t.curveCount k ∧
          ((pointOf t.curves[k][j.succ]).1 ≤ (pointOf t.curves[k][i.succ]).1 ∨
            (pointOf t.curves[k][j.succ]).2 < (pointOf t.curves[k][i.succ]).2)) := by
  have hlen : (t.curvePoints k).length = t.curveCount k := by rw [curvePoints_length]; omega
  have hget (i : Nat) (hi : i < (t.curvePoints k).length) :
      (t.curvePoints k)[i] = pointOf t.curves[k][(⟨i, by omega⟩ : Fin 16).succ] := by
    have h := curvePoints_get t k (i := ⟨i, by omega⟩) (hlen ▸ hi)
    rwa [List.getElem?_eq_getElem hi, Option.some_inj] at h
  rw [← Bool.not_eq_true, pointsOk_iff, List.forall_mem_iff_forall_getElem, List.pairwise_iff_getElem]
  rw [not_iff_comm]
  push Not
  constructor
  · intro h
    refine ⟨fun i hi => ?_, fun i j hi hj hij => ?_⟩
    · rw [hget i hi]
      exact (h ⟨i, by omega⟩ (hlen ▸ hi)).1
    · rw [hget i hi, hget j hj]
      exact (h ⟨i, by omega⟩ (hlen ▸ hi)).2 ⟨j, by omega⟩ hij (hlen ▸ hj)
  · rintro ⟨hlevel, hpair⟩ i hi
    have hl := hlevel i.val (hlen.symm ▸ hi)
    rw [hget] at hl
    refine ⟨hl, fun j hij hj => ?_⟩
    have hp := hpair i.val j.val (hlen.symm ▸ hi) (hlen.symm ▸ hj) hij
    rwa [hget, hget] at hp

/-- The checks of a curve, each as what makes it fail; a curve without points passes. -/
theorem checkCurve_eq (t : Tables) (k : Fin 4) :
    t.checkCurve k =
      if t.curveCount k = 1 ∨ 16 < t.curveCount k then some .curveCount
      else if ∃ i : Fin 16, i.val < t.curveCount k ∧ (4095 < (pointOf t.curves[k][i.succ]).2 ∨
          ∃ j : Fin 16, i < j ∧ j.val < t.curveCount k ∧
            ((pointOf t.curves[k][j.succ]).1 ≤ (pointOf t.curves[k][i.succ]).1 ∨
              (pointOf t.curves[k][j.succ]).2 < (pointOf t.curves[k][i.succ]).2)) then some .curveOrder
      else none := by
  by_cases hno : t.curveCount k = 0
  · simp [Tables.checkCurve, hno]
  · rw [Tables.checkCurve, if_neg hno, failUnless_eq]
    refine if_ctx_congr ?_ (fun _ => rfl) fun hin => if_congr (pointsOk_curvePoints t k (by omega)) rfl rfl
    simp only [Bool.or_eq_true, decide_eq_true_eq]
    omega

end Sys2Proof.Machine
end

section
/-! SUPPORT. The checks of the schedule, the trims, the actions and the parameters, and the statement about all the
checks of a commit and the named fields (R48 to R53, R56, R57). -/

namespace Sys2Proof.Machine

/-! ### Section S (R50, R56) -/

/-- The checks of a used entry against the used entries below it. -/
def entryCheck (below : List SchedEntry) (e : SchedEntry) : Option Reason :=
  if !e.used then none
  else if !(e.start < 10080 && e.cap ≤ 4095) then some .scheduleRange
  else if below.any fun b => b.start == e.start && b.faces &&& e.faces != 0#8 then some .scheduleDuplicate
  else none

theorem checkSchedule_cons (below : List SchedEntry) (e : SchedEntry) (es : List SchedEntry) :
    checkSchedule below (e :: es) =
      (entryCheck below e).or (checkSchedule (if e.used then e :: below else below) es) := by
  rw [checkSchedule, entryCheck]
  split_ifs <;> simp_all

/-- The check of an entry depends on which entries lie below it, and not on their order. -/
theorem entryCheck_congr {a b : List SchedEntry} (h : ∀ x, x ∈ a ↔ x ∈ b) (e : SchedEntry) :
    entryCheck a e = entryCheck b e := by
  have hany (p : SchedEntry → Bool) : a.any p = b.any p := by
    rw [Bool.eq_iff_iff, List.any_eq_true, List.any_eq_true]
    simp only [h]
  rw [entryCheck, hany]
  rfl

/-- The used entries numbered below one. -/
def usedBelow {n : Nat} (g : Fin n → SchedEntry) (e : Fin n) : List SchedEntry :=
  (((List.finRange n).filter (· < e)).map g).filter (·.used)

theorem mem_usedBelow {n : Nat} {g : Fin n → SchedEntry} {e : Fin n} {x : SchedEntry} :
    x ∈ usedBelow g e ↔ ∃ i < e, (g i).used = true ∧ g i = x := by
  simp only [usedBelow, List.mem_filter, List.mem_map, List.mem_finRange, true_and, decide_eq_true_eq]
  constructor
  · rintro ⟨⟨i, hi, rfl⟩, hu⟩
    exact ⟨i, hi, hu, rfl⟩
  · rintro ⟨i, hi, hu, rfl⟩
    exact ⟨⟨i, hi, rfl⟩, hu⟩

/-- The checks of the rest of the entries, where those below are the used ones of the entries already checked. -/
theorem checkSchedule_map {n : Nat} (g : Fin n → SchedEntry) {l : List (Fin n)} (hl : l.Pairwise (· < ·))
    {below : List SchedEntry}
    (hbelow : ∀ e ∈ l, ∀ x, x ∈ below ↔ ∃ i < e, i ∉ l ∧ (g i).used = true ∧ g i = x) :
    checkSchedule below (l.map g) = firstFailure (fun e => entryCheck (usedBelow g e) (g e)) l := by
  induction l generalizing below with
  | nil => rfl
  | cons e l ih =>
    obtain ⟨he, hl⟩ := List.pairwise_cons.mp hl
    have hmem (x : SchedEntry) : x ∈ below ↔ x ∈ usedBelow g e := by
      rw [hbelow e List.mem_cons_self, mem_usedBelow]
      refine exists_congr fun i => and_congr_right fun hi => and_iff_right fun hmem => ?_
      rcases List.mem_cons.mp hmem with rfl | hmem
      · exact lt_irrefl i hi
      · exact lt_asymm hi (he i hmem)
    have hsplit (k : Fin n) (hk : k ∈ l) (x : SchedEntry) :
        (∃ i < k, i ∉ l ∧ (g i).used = true ∧ g i = x) ↔ ((g e).used = true ∧ g e = x) ∨ x ∈ below := by
      rw [hbelow k (List.mem_cons_of_mem _ hk)]
      constructor
      · rintro ⟨i, hi, hil, hx⟩
        by_cases hie : i = e
        · exact .inl (hie ▸ hx)
        · exact .inr ⟨i, hi, by simp [hie, hil], hx⟩
      · rintro (hx | ⟨i, hi, hil, hx⟩)
        · exact ⟨e, he k hk, fun h => lt_irrefl e (he e h), hx⟩
        · exact ⟨i, hi, fun h => hil (List.mem_cons_of_mem _ h), hx⟩
    rw [List.map_cons, checkSchedule_cons, firstFailure_cons, entryCheck_congr hmem, ih hl]
    intro k hk x
    rw [hsplit k hk]
    cases hu : (g e).used <;> simp [eq_comm]

theorem entries_eq (t : Tables) : t.entries = (List.finRange 32).map fun e => schedOf t.schedule[e] := by
  refine List.ext_getElem (by simp [Tables.entries]) fun i hi hj => ?_
  simp [Tables.entries]

/-- The schedule is checked entry by entry, each against the used ones below it. -/
theorem checkSchedule_entries (t : Tables) :
    checkSchedule [] t.entries =
      firstFailure (fun e : Fin 32 => entryCheck (usedBelow (fun i : Fin 32 => schedOf t.schedule[i]) e)
        (schedOf t.schedule[e])) (List.finRange 32) := by
  rw [entries_eq, checkSchedule_map _ (List.pairwise_lt_finRange 32)]
  intro e _ x
  simp

/-- Two masks have a face in common. -/
theorem and_ne_zero_iff (a b : BitVec 8) :
    (a &&& b != 0#8) = true ↔ ∃ f : Fin 8, a.getLsbD f.val = true ∧ b.getLsbD f.val = true := by
  rw [bne_iff_ne, ne_eq, ← not_iff_not, not_not, not_exists]
  constructor
  · intro h f
    rw [← Bool.and_eq_true, ← BitVec.getLsbD_and, h]
    simp
  · intro h
    refine BitVec.eq_of_getLsbD_eq fun i hi => ?_
    have hf := h ⟨i, hi⟩
    rw [← Bool.and_eq_true, ← BitVec.getLsbD_and, Bool.not_eq_true] at hf
    rw [hf, BitVec.getLsbD_zero]

/-- The checks of an entry, each as what makes it fail. -/
theorem entryCheck_usedBelow {n : Nat} (g : Fin n → SchedEntry) (e : Fin n) :
    entryCheck (usedBelow g e) (g e) =
      if ¬ (g e).used = true then none
      else if 10080 ≤ (g e).start ∨ 4095 < (g e).cap then some .scheduleRange
      else if ∃ i < e, (g i).used = true ∧ (g i).start = (g e).start ∧
          ∃ f : Fin 8, (g i).faces.getLsbD f.val = true ∧ (g e).faces.getLsbD f.val = true then
        some .scheduleDuplicate
      else none := by
  rw [entryCheck]
  refine if_congr (by simp) rfl (if_congr ?_ rfl (if_congr ?_ rfl rfl))
  · simp only [Bool.not_eq_true', Bool.and_eq_false_iff, decide_eq_false_iff_not, not_lt, not_le]
  · rw [List.any_eq_true]
    simp only [mem_usedBelow, Bool.and_eq_true, beq_iff_eq, and_ne_zero_iff]
    constructor
    · rintro ⟨_, ⟨i, hi, hu, rfl⟩, hrest⟩
      exact ⟨i, hi, hu, hrest⟩
    · rintro ⟨i, hi, hu, hrest⟩
      exact ⟨g i, ⟨i, hi, hu, rfl⟩, hrest⟩

/-- A face of an entry's mask, as a field of one bit (12.4). -/
theorem getLsbD_faces (w : Vector Word 2) (f : Fin 8) :
    (schedOf w).faces.getLsbD f.val = true ↔ w[0].toNat / 2 ^ (8 + f.val) % 2 ^ 1 = 1 := by
  have hbit : (schedOf w).faces.getLsbD f.val = w[0].getLsbD (8 + f.val) := by
    rw [schedOf, BitVec.getLsbD_ofNat, testBit_bits]
    simp
  rw [hbit, getLsbD_eq_field, decide_eq_true_eq]

/-! ### Sections Z, A and G (R51 to R53, R56) -/

/-- An entry of a table, by its index. -/
theorem exists_mem_toList {α : Type} {n : Nat} (v : Vector α n) (p : α → Prop) :
    (∃ x ∈ v.toList, p x) ↔ ∃ i : Fin n, p v[i] := by
  simp only [Vector.mem_toList_iff, Vector.mem_iff_getElem]
  constructor
  · rintro ⟨_, ⟨i, hi, rfl⟩, hp⟩
    exact ⟨⟨i, hi⟩, hp⟩
  · rintro ⟨i, hp⟩
    exact ⟨_, ⟨i.val, i.isLt, rfl⟩, hp⟩

theorem checkTrims_eq (t : Tables) :
    firstFailure (fun v => firstFailure checkTrim v.toList) t.trims.toList =
      if ∃ f : Fin 8, ∃ z : Fin 16, 256 < t.trims[f][z].toNat / 2 ^ 0 % 2 ^ 9 then some .trimRange else none := by
  have hword (w : Word) : checkTrim w = if 256 < bits w 0 9 then some .trimRange else none := by
    rw [checkTrim, failUnless_eq]
    exact if_congr (by simp) rfl rfl
  simp only [← bits_eq]
  have hface (v : Vector Word 16) : firstFailure checkTrim v.toList =
      if ∃ z : Fin 16, 256 < bits v[z] 0 9 then some .trimRange else none :=
    firstFailure_of_one_reason hword (exists_mem_toList v fun w => 256 < bits w 0 9)
  exact firstFailure_of_one_reason hface (exists_mem_toList t.trims fun v => ∃ z : Fin 16, 256 < bits v[z] 0 9)

/-- The action of a code, by the two bits that hold it. -/
theorem action_getElem? (w : Word) :
    [Action.none, .report, .derate, .blank][bits w 0 2]? = some (actionOf w) := by
  have hlt : bits w 0 2 < 4 := bits_lt w 0 2
  unfold actionOf
  generalize bits w 0 2 = n at hlt
  match n with
  | 0 => rfl
  | 1 => rfl
  | 2 => rfl
  | 3 => rfl

theorem actionOf_eq_none_iff (w : Word) : actionOf w = .none ↔ bits w 0 2 = 0 := by
  unfold actionOf
  match bits w 0 2 with
  | 0 => simp
  | 1 => simp
  | 2 => simp
  | n + 3 => simp

theorem actionOf_bus_iff (w : Word) : (actionOf w = .none ∨ actionOf w = .report) ↔ bits w 0 2 ≤ 1 := by
  unfold actionOf
  match bits w 0 2 with
  | 0 => simp
  | 1 => simp
  | 2 => simp
  | n + 3 => simp

theorem definedClass_iff (c : Fin 32) :
    definedClass c.val = true ↔ c.val ∈ [1, 2, 3, 4, 8, 9, 10, 16, 17, 18, 19, 20, 24, 25] := by
  revert c; decide

theorem checkAction_eq (t : Tables) (c : Fin 32) :
    t.checkAction c =
      if 1 < bits t.actions[c] 0 2 ∧ c.val ∈ [24, 25] ∨
          bits t.actions[c] 0 2 ≠ 0 ∧ c.val ∉ [1, 2, 3, 4, 8, 9, 10, 16, 17, 18, 19, 20, 24, 25] then
        some .actionCode
      else none := by
  rw [Tables.checkAction, Tables.action]
  by_cases hbus : c.val = 24 ∨ c.val = 25
  · have hin : c.val ∈ [24, 25] := by simpa using hbus
    have hdef : c.val ∈ [1, 2, 3, 4, 8, 9, 10, 16, 17, 18, 19, 20, 24, 25] := List.mem_of_mem_drop (i := 12) hin
    rw [if_pos (by simpa using hbus), failUnless_eq]
    refine if_congr ?_ rfl rfl
    simp only [hin, hdef, not_true, and_true, and_false, or_false]
    rw [← Bool.not_eq_true, Bool.or_eq_true, beq_iff_eq, beq_iff_eq, actionOf_bus_iff, not_le]
  · have hin : c.val ∉ [24, 25] := by simpa using hbus
    rw [if_neg (by simpa using hbus), failUnless_eq]
    refine if_congr ?_ rfl rfl
    simp only [hin, and_false, false_or]
    rw [← Bool.not_eq_true, Bool.or_eq_true, beq_iff_eq, actionOf_eq_none_iff, definedClass_iff, not_or, and_comm]

theorem checkActions_eq (t : Tables) :
    firstFailure t.checkAction (List.finRange 32) =
      if ∃ c : Fin 32, 1 < t.actions[c].toNat / 2 ^ 0 % 2 ^ 2 ∧ c.val ∈ [24, 25] ∨
          t.actions[c].toNat / 2 ^ 0 % 2 ^ 2 ≠ 0 ∧
            c.val ∉ [1, 2, 3, 4, 8, 9, 10, 16, 17, 18, 19, 20, 24, 25] then
        some .actionCode
      else none := by
  simp only [← bits_eq]
  exact firstFailure_of_one_reason (checkAction_eq t) (by simp only [List.mem_finRange, true_and])

/-- The ranges of the seven general parameters. -/
theorem checkParams_eq (t : Tables) {value : Fin 7 → Nat} (h : ∀ p, t.param p = value p) :
    firstFailure t.checkParam (List.finRange 7) =
      if 4095 < value 0 ∨ (value 1 < 20 ∨ 5000 < value 1) ∨ 60000 < value 2 ∨ (value 3 < 1 ∨ 255 < value 3) ∨
          (value 4 < 200 ∨ 30000 < value 4) ∨ (value 5 < 1000 ∨ 60000 < value 5) ∨ 255 < value 6 then
        some .parameterRange
      else none := by
  have hparam (p : Fin 7) :
      t.checkParam p = if paramOk p (value p) = false then some .parameterRange else none := by
    rw [Tables.checkParam, h, failUnless_eq]
  refine firstFailure_of_one_reason hparam ?_
  simp [List.finRange_succ, paramOk, imp_iff_not_or]

/-! ### All the checks (R57) -/

theorem inSection_eq_some {x y : Sec} {a : Option Reason} {why : Reason} :
    inSection x a = some (why, y) ↔ a = some why ∧ x = y := by
  cases a <;> simp [inSection]

theorem inSection_eq_none {x : Sec} {a : Option Reason} : inSection x a = none ↔ a = none := Option.map_eq_none_iff

/-- A failure of the first section, or of a later one where the first passes. -/
theorem inSection_or_eq_some {x y : Sec} {a : Option Reason} {rest : Option (Reason × Sec)} {why : Reason} :
    (inSection x a).or rest = some (why, y) ↔ a = some why ∧ x = y ∨ a = none ∧ rest = some (why, y) := by
  cases a <;> simp [inSection]

theorem inSection_or_eq_none {x : Sec} {a : Option Reason} {rest : Option (Reason × Sec)} :
    (inSection x a).or rest = none ↔ a = none ∧ rest = none := by
  cases a <;> simp [inSection]

/-- The seven outcomes of the checks, from the checks of each section. -/
theorem validate_sections {t : Tables} {base : Nat} {F : Fin 8 → Option Reason} {C : Fin 4 → Option Reason}
    {S : Fin 32 → Option Reason} {Z A G : Prop} [Decidable Z] [Decidable A] [Decidable G]
    (hF : firstFailure (t.checkFace base) allFaces = firstFailure F (List.finRange 8))
    (hC : firstFailure t.checkCurve [0, 1, 2, 3] = firstFailure C (List.finRange 4))
    (hS : checkSchedule [] t.entries = firstFailure S (List.finRange 32))
    (hZ : firstFailure (fun v => firstFailure checkTrim v.toList) t.trims.toList =
      if Z then some .trimRange else none)
    (hA : firstFailure t.checkAction (List.finRange 32) = if A then some .actionCode else none)
    (hG : firstFailure t.checkParam (List.finRange 7) = if G then some .parameterRange else none) (why : Reason) :
    let okF := ∀ f, F f = none
    let okC := ∀ k, C k = none
    let okS := ∀ e, S e = none
    (t.validate base = some (why, .F) ↔ ∃ f, F f = some why ∧ ∀ g, g < f → F g = none) ∧
    (t.validate base = some (why, .C) ↔ okF ∧ ∃ k, C k = some why ∧ ∀ j, j < k → C j = none) ∧
    (t.validate base = some (why, .S) ↔ okF ∧ okC ∧ ∃ e, S e = some why ∧ ∀ g, g < e → S g = none) ∧
    (t.validate base = some (why, .Z) ↔ okF ∧ okC ∧ okS ∧ Z ∧ why = .trimRange) ∧
    (t.validate base = some (why, .A) ↔ okF ∧ okC ∧ okS ∧ ¬ Z ∧ A ∧ why = .actionCode) ∧
    (t.validate base = some (why, .G) ↔ okF ∧ okC ∧ okS ∧ ¬ Z ∧ ¬ A ∧ G ∧ why = .parameterRange) ∧
    (t.validate base = none ↔ okF ∧ okC ∧ okS ∧ ¬ Z ∧ ¬ A ∧ ¬ G) := by
  simp only [Tables.validate, hF, hC, hS, hZ, hA, hG, inSection_or_eq_some, inSection_or_eq_none, inSection_eq_some,
    inSection_eq_none, firstFailure_finRange, firstFailure_finRange_none, ite_eq_right_iff,
    Option.ite_none_right_eq_some, reduceCtorEq, Option.some_inj, eq_comm (b := why), and_true, and_false, or_false,
    false_or, imp_false]

/-! ### The named fields (12.4) -/

section
variable (t : Tables) (f : Fin 8)

/-- A face record by the fields of its words (R48). -/
theorem face_eq :
    t.face f =
      { enabled := decide (t.faces[f][0].toNat / 2 ^ 0 % 2 ^ 1 = 1)
        combineMin := decide (t.faces[f][0].toNat / 2 ^ 2 % 2 ^ 1 = 1)
        curve := Fin.ofNat 4 (t.faces[f][0].toNat / 2 ^ 4 % 2 ^ 2)
        sensorMask := BitVec.ofNat 4 (t.faces[f][0].toNat / 2 ^ 8 % 2 ^ 4)
        baseA := t.faces[f][1].toNat / 2 ^ 0 % 2 ^ 24
        baseB := if t.faces[f][0].toNat / 2 ^ 1 % 2 ^ 1 = 1 then some (t.faces[f][2].toNat / 2 ^ 0 % 2 ^ 24) else none
        width := t.faces[f][3].toNat / 2 ^ 0 % 2 ^ 12
        height := t.faces[f][3].toNat / 2 ^ 16 % 2 ^ 11
        strideExp := t.faces[f][4].toNat / 2 ^ 0 % 2 ^ 4
        rise := t.faces[f][5].toNat / 2 ^ 0 % 2 ^ 16
        fall := t.faces[f][5].toNat / 2 ^ 16 % 2 ^ 16
        fast := t.faces[f][6].toNat / 2 ^ 0 % 2 ^ 16
        loss := t.faces[f][7].toNat / 2 ^ 0 % 2 ^ 12
        derate := t.faces[f][7].toNat / 2 ^ 16 % 2 ^ 12
        aplLimit := t.faces[f][8].toNat / 2 ^ 0 % 2 ^ 10 } := by
  simp only [Tables.face, bits_eq, getLsbD_eq_field, decide_eq_true_eq]

theorem face_enabled_iff : (t.face f).enabled = true ↔ t.faces[f][0].toNat / 2 ^ 0 % 2 ^ 1 = 1 := by
  rw [face_eq]
  exact decide_eq_true_iff

theorem face_bases :
    (t.face f).bases =
      t.faces[f][1].toNat / 2 ^ 0 % 2 ^ 24 ::
        if t.faces[f][0].toNat / 2 ^ 1 % 2 ^ 1 = 1 then [t.faces[f][2].toNat / 2 ^ 0 % 2 ^ 24] else [] := by
  rw [face_eq]
  exact congrArg (_ :: ·) (apply_ite Option.toList _ _ _)

end

/-- A schedule entry by the fields of its words (R50). -/
theorem schedOf_eq (w : Vector Word 2) :
    schedOf w =
      { used := decide (w[0].toNat / 2 ^ 0 % 2 ^ 1 = 1), faces := BitVec.ofNat 8 (w[0].toNat / 2 ^ 8 % 2 ^ 8)
        start := w[0].toNat / 2 ^ 16 % 2 ^ 14, cap := w[1].toNat / 2 ^ 0 % 2 ^ 16 } := by
  simp only [schedOf, bits_eq, getLsbD_eq_field]

theorem schedOf_used_iff (w : Vector Word 2) : (schedOf w).used = true ↔ w[0].toNat / 2 ^ 0 % 2 ^ 1 = 1 := by
  rw [schedOf_eq]
  exact decide_eq_true_iff

/-- The light code and level of a point word. -/
theorem pointOf_eq (w : Word) : pointOf w = (w.toNat / 2 ^ 0 % 2 ^ 16, w.toNat / 2 ^ 16 % 2 ^ 13) := by
  simp only [pointOf, bits_eq]

/-- Settles O32: each section's check as what makes it fail, the first failure of each, and the sections in turn. -/
theorem commitChecks : Obligations.CommitChecks := by
  intro t base why field word enabled width height exponent size bases meet F code level C used start S Z A value G
    okF okC okS
  have hcount (k : Fin 4) : t.curveCount k = field t.curves[k][(0 : Fin 17)] 0 5 := bits_eq _ 0 5
  have hpoint (k : Fin 4) (i : Fin 16) : pointOf t.curves[k][i.succ] = (code k i, level k i) := pointOf_eq _
  have hparam (p : Fin 7) : t.param p = value p := bits_eq _ 0 16
  have hF : t.checkFace base = F := by
    funext f
    have henabled (g : Fin 8) : (t.face g).enabled = true ↔ enabled g := face_enabled_iff t g
    have hbases (g : Fin 8) : (t.face g).bases = bases g := face_bases t g
    have hsize (g : Fin 8) : (t.face g).size = size g := by rw [face_eq]; rfl
    rw [checkFace_eq rfl base]
    simp only [henabled, hbases, hsize, hcount]
    rw [face_eq]
    exact if_congr Iff.rfl rfl (if_congr Iff.rfl rfl (if_congr Iff.rfl rfl (if_congr Iff.rfl rfl (if_congr Iff.rfl rfl
      (if_congr Iff.rfl rfl rfl)))))
  have hC : t.checkCurve = C := by
    funext k
    rw [checkCurve_eq]
    simp only [hpoint, hcount]
    exact if_congr Iff.rfl rfl (if_congr Iff.rfl rfl rfl)
  have hS : checkSchedule [] t.entries = firstFailure S (List.finRange 32) := by
    rw [checkSchedule_entries]
    refine congrArg (firstFailure · _) (funext fun e => ?_)
    rw [entryCheck_usedBelow]
    have hstart (i : Fin 32) : (schedOf t.schedule[i]).start = start i := bits_eq _ 16 14
    have hcap : (schedOf t.schedule[e]).cap = field t.schedule[e][(1 : Fin 2)] 0 16 := bits_eq _ 0 16
    simp only [schedOf_used_iff, getLsbD_faces, hstart, hcap]
    exact if_congr Iff.rfl rfl (if_congr Iff.rfl rfl (if_congr Iff.rfl rfl rfl))
  have hsections := validate_sections (congrArg (firstFailure · allFaces) hF)
    (congrArg (firstFailure · [0, 1, 2, 3]) hC) hS (checkTrims_eq t) (checkActions_eq t) (checkParams_eq t hparam) why
  obtain ⟨hfaces, hcurves, hschedule, htrims, hactions, hparams, hpass⟩ := hsections
  refine ⟨hfaces, hcurves, hschedule, htrims, hactions, hparams, hpass, fun f => ?_,
    fun k => ⟨hcount k, curvePoints_length t k, fun i hi => ?_⟩, ⟨by rw [entries_eq]; simp, fun e => ?_⟩,
    fun f z => bits_eq _ 0 9, fun c => ⟨?_, getLsbD_eq_field _ 8⟩, ?_⟩
  · refine (face_eq t f).trans ?_
    have hB : (bases f).tail.head? = _ := apply_ite List.head? _ _ _
    rw [hB]
    rfl
  · rw [curvePoints_get t k hi, hpoint]
  · rw [Tables.entries, List.getElem?_map, Vector.getElem?_toList, Vector.getElem?_eq_getElem e.isLt]
    exact congrArg some (schedOf_eq _)
  · have haction := action_getElem? t.actions[c]
    rwa [bits_eq] at haction
  · exact congrArg (List.map · (List.finRange 7)) (funext hparam)

end Sys2Proof.Machine
end

section
/-! SUPPORT. A rule over all commands, said once: what holds of the monitors and of what waits, and is kept by each
event of a block, is kept by every command but the resets. -/

namespace Sys2Proof.Machine

/-! ### The events of the blocks -/

/-- What the events of the blocks work on: the active tables and the regions, time, channels, faces and tiles, and what
waits. -/
def State.watched (s : State) :
    Tables × Vector Region 8 × TimeBase × Light × Vector FaceState 8 × TileLink × List Notice :=
  (s.policy.active, s.regions, s.time, s.light, s.faces, s.tiles, s.inbox)

/-- A record carries the stamp and the minute-of-week of a state (R70). -/
def Record.MadeIn (r : Record) (s : State) : Prop := r.stamp = s.time.stamp ∧ r.minute = s.time.tod.recordMinute

/-- The records among some notices are made now. -/
def State.Makes (s : State) (ns : List Notice) : Prop := ∀ r, Notice.record r ∈ ns → r.MadeIn s

/-- P is kept by every event of a block; the two events that move time, the 1 ms event and a time setting, give Q, which
follows from P and which a restart keeps. -/
structure EventRule (P Q : State → Prop) : Prop where
  weaken : ∀ {s}, P s → Q s
  inert : ∀ {s t}, P s → t.watched = s.watched → P t
  hand : ∀ {s ns}, s.Makes ns → P s → P (s.hand ns)
  endStall : ∀ {s} f, P s → P (s.endStall f)
  restart : ∀ {s}, P s → P s.restart
  restartAfter : ∀ {s}, Q s → Q s.restart
  liveWrite : ∀ {s} f b, P s → P (s.liveWrite f b)
  modeWritten : ∀ {s} f m up, P s → P (s.modFace f fun x => x.modeWrite m up)
  releaseFace : ∀ {s} f, P s → P (s.releaseFace f)
  setTime : ∀ {s minute ms}, minute < 10080 → ms < 60000 → P s → Q (s.setTime minute ms)
  pixelRead : ∀ {s l} {f : Fin 8} b z w, l < s.regions[f].height → P s → P (s.pixelRead f b l z w)
  haltStallTimers : ∀ {s}, P s → P s.haltStallTimers
  restartStallTimers : ∀ {s}, P s → P s.restartStallTimers
  staleExpiry : ∀ {s} ch, P s → P (s.staleExpiry ch)
  stallExpiry : ∀ {s} f, P s → P (s.stallExpiry f)
  silentExpiry : ∀ {s} f i, P s → P (s.silentExpiry f i)
  takeTick : ∀ {s}, P s → P s.takeTick
  ms1 : ∀ {s}, P s → Q s.ms1
  goodFrame : ∀ {s code} ch flag, code ≤ max16 → P s → P (s.goodFrame ch code flag)
  badSample : ∀ {s} ch, P s → P (s.badSample ch)
  shortFrame : ∀ {s}, P s → P { s with light := { s.light with shortFrames := satInc max16 s.light.shortFrames } }
  goodTile : ∀ {s} {f : Fin 8} i st o t, s.configured f = true → P s → P (s.goodTile f i st o t)
  linkError : ∀ {s}, P s → P s.linkError
  discardTile : ∀ {s}, P s → P s.discardTile
  takeRecord : ∀ {s r rest}, s.inbox = .record r :: rest → P s → P { s.takeRecord r with inbox := rest }
  switched : ∀ {s}, s.commitFailure = none → P s → P s.switched

theorem of_ite {P : State → Prop} {c : Prop} [Decidable c] {a b : State} (ha : P a) (hb : P b) :
    P (if c then a else b) := by split <;> assumption

theorem foldl_keeps {α : Type} {P : State → Prop} {op : State → α → State} (h : ∀ s a, P s → P (op s a)) (l : List α)
    {s : State} (hs : P s) : P (l.foldl op s) := by
  induction l generalizing s with
  | nil => exact hs
  | cons a l ih => exact ih (h s a hs)

/-- Draining does not look at the inbox it sets. -/
theorem drain_setInbox (ns : List Notice) (s : State) (xs : List Notice) :
    ({ s with inbox := xs } : State).drain ns = s.drain ns := by
  induction ns generalizing s xs with
  | nil => rfl
  | cons n ns ih =>
    cases n with
    | record r => rfl
    | completion f =>
      have hc : ({ s with inbox := xs } : State).takeCompletion f = { s.takeCompletion f with inbox := xs } := by
        unfold State.takeCompletion
        by_cases h : s.configured f = true
        · rw [if_pos h]; exact if_pos h
        · rw [if_neg h]; exact if_neg h
      simp only [State.drain, hc, ih]
    | stallEnded f => exact ih (s.takeStallEnded f) xs

/-- The lines of a face's buffers lie within its height (R31). -/
theorem inBuffer_line_lt {f : Fin 8} {r : Region} {b : Buffer} {base w : Nat} {g : Fin 8} {b' : Buffer} {x l : Nat}
    {z : Fin 16} (h : inBuffer f r b base w = some (.pixel g b' x l z)) : g = f ∧ l < r.height := by
  by_cases hw : r.Holds base w
  · rw [inBuffer_of_holds f b hw] at h
    split at h
    · cases h
      exact ⟨rfl, Nat.div_lt_of_lt_mul (by rw [Nat.mul_comm]; omega)⟩
    · cases h
  · rw [inBuffer_of_not_holds f b hw] at h
    cases h

theorem inFace_line_lt {f : Fin 8} {r : Region} {w : Nat} {g : Fin 8} {b : Buffer} {x l : Nat} {z : Fin 16}
    (h : inFace f r w = some (.pixel g b x l z)) : g = f ∧ l < r.height := by
  unfold inFace at h
  split at h
  · cases h
  · rcases Option.or_eq_some_iff.mp h with h | ⟨-, h⟩
    · exact inBuffer_line_lt h
    · obtain ⟨base, -, h⟩ := Option.bind_eq_some_iff.mp h
      exact inBuffer_line_lt h

theorem inFaces_line_lt {s : State} {w : Nat} {fs : List (Fin 8)} {f : Fin 8} {b : Buffer} {x l : Nat} {z : Fin 16}
    (h : s.inFaces w fs = some (.pixel f b x l z)) : l < s.regions[f].height := by
  induction fs with
  | nil => cases h
  | cons g fs ih =>
    cases hg : inFace g s.regions[g] w with
    | none =>
      simp only [State.inFaces, hg] at h
      exact ih h
    | some c =>
      simp only [State.inFaces, hg] at h
      cases h
      obtain ⟨rfl, hl⟩ := inFace_line_lt hg
      exact hl

/-- A pixel's line lies within the height of its face (R31). -/
theorem classify_line_lt {s : State} {w : Option Nat} {f : Fin 8} {b : Buffer} {x l : Nat} {z : Fin 16}
    (h : s.classify w = .pixel f b x l z) : l < s.regions[f].height := by
  cases w with
  | none => cases h
  | some w =>
    simp only [State.classify] at h
    split at h
    · split at h <;> cases h
    · cases hf : s.inFaces w allFaces with
      | none => rw [hf] at h; cases h
      | some c =>
        rw [hf] at h
        cases h
        exact inFaces_line_lt hf

/-- A light code is a word of 16 bits (12.7). -/
theorem sampleCode_le (n1 n2 n3 n4 : Nibble) : sampleCode n1 n2 n3 n4 ≤ max16 := by
  simp only [sampleCode, max16]
  omega

/-- Every record is made with the time its state holds (R70). -/
theorem mkRecord_madeIn (s : State) (k : SourceKind) (i c : Nat) (e : EventKind) (v : Nat) :
    (s.mkRecord k i c e v).MadeIn s := ⟨rfl, rfl⟩

theorem makes_nil (s : State) : s.Makes [] := fun _ h => nomatch h

theorem makes_one {s t : State} (ht : t.time = s.time) (k : SourceKind) (i c : Nat) (e : EventKind) (v : Nat) :
    t.Makes [.record (s.mkRecord k i c e v)] := fun r h => by
  obtain rfl : r = s.mkRecord k i c e v := by simpa using h
  rw [Record.MadeIn, ht]
  exact mkRecord_madeIn s k i c e v

theorem Makes.append {s : State} {a b : List Notice} (ha : s.Makes a) (hb : s.Makes b) : s.Makes (a ++ b) :=
  fun r h => (List.mem_append.mp h).elim (ha r) (hb r)

theorem Makes.ite {s : State} {c : Prop} [Decidable c] {a b : List Notice} (ha : s.Makes a) (hb : s.Makes b) :
    s.Makes (if c then a else b) := by split <;> assumption

theorem makes_trackRecords {s t : State} (ht : t.time = s.time) (m : ModeImage) : t.Makes (s.trackRecords m) :=
  Makes.ite (makes_one ht _ _ _ _ _) (Makes.ite (makes_one ht _ _ _ _ _) (makes_nil t))

namespace EventRule

variable {P Q : State → Prop} {s : State}

/-! ### Write beats -/

theorem setPolicy (h : EventRule P Q) {p : Policy} (hp : p.active = s.policy.active) (hs : P s) :
    P { s with policy := p } := h.inert hs (by simp [State.watched, hp])

theorem settleRestart (h : EventRule P Q) (hs : P s) : P s.settleRestart := of_ite (h.restart hs) hs

theorem settleRestartAfter (h : EventRule P Q) (hs : Q s) : Q s.settleRestart := of_ite (h.restartAfter hs) hs

theorem requestRestart (h : EventRule P Q) (hs : P s) : P s.requestRestart :=
  of_ite hs (of_ite (h.restart hs) (h.inert hs rfl))

theorem declare (h : EventRule P Q) (c : ModeCodes) (hs : P s) : P (s.declare c) :=
  h.hand (makes_trackRecords rfl _) (h.inert hs rfl)

theorem modeWrite (h : EventRule P Q) (f : Fin 8) (m : Mode) (up : Bool) (hs : P s) : P (s.modeWrite f m up) :=
  of_ite (h.endStall f (h.modeWritten f m up hs)) (h.modeWritten f m up hs)

theorem faceModeWord (h : EventRule P Q) (f : Fin 8) (w : Word) (hs : P s) : P (s.faceModeWord f w) := by
  refine of_ite hs (of_ite (h.releaseFace f hs) ?_)
  split
  · exact h.modeWrite f _ _ hs
  · exact hs

theorem immediateWrite (h : EventRule P Q) (off : Nat) (w : Word) (hs : P s) : Q (s.immediateWrite off w) := by
  refine of_ite ?_ (h.weaken (of_ite (of_ite (h.declare _ hs) hs) (of_ite (h.setPolicy (request_active _ _ _) hs)
    (of_ite (of_ite (h.requestRestart hs) hs) (of_ite (h.faceModeWord _ w hs) hs)))))
  split
  · rename_i hrange
    simp only [Bool.and_eq_true, decide_eq_true_eq] at hrange
    exact h.setTime hrange.1 hrange.2 hs
  · exact h.weaken hs

theorem stagedWrite (h : EventRule P Q) (a : Option StagedAddr) (data : Word) (m : Mask) (hs : P s) :
    P (match a with
      | some a => { s with policy := s.policy.stage a data m }
      | none => s) := by
  cases a with
  | some a => exact h.setPolicy (stage_active _ _ _ _) hs
  | none => exact hs

theorem modReport (h : EventRule P Q) (g : Report → Report) (hs : P s) : P (s.modReport g) := h.inert hs rfl

theorem reportWrite (h : EventRule P Q) (off : Nat) (data : Word) (m : Mask) (hs : P s) :
    P (s.reportWrite off data m) := by
  unfold State.reportWrite
  split
  · exact of_ite (h.modReport _ hs) hs
  · exact h.modReport _ hs
  · exact hs

theorem takeWrite (h : EventRule P Q) (c : BeatClass) (data : Word) (m : Mask) (hs : P s) :
    Q (s.takeWrite c data m) := by
  cases c with
  | unattributed => exact h.weaken hs
  | policy off =>
    exact of_ite (of_ite (h.immediateWrite off data hs) (h.weaken hs)) (h.weaken (h.stagedWrite _ data m hs))
  | report off => exact h.weaken (h.reportWrite off data m hs)
  | pixel f b x line z => exact h.weaken (h.liveWrite f b hs)
  | padding f b => exact h.weaken (h.liveWrite f b hs)
  | other c => exact h.weaken hs

/-- A masked write beat writes no immediate word, so it sets no time (R39). -/
theorem takeWrite_masked (h : EventRule P Q) (c : BeatClass) (data : Word) {m : Mask} (hm : whole m = false)
    (hs : P s) : P (s.takeWrite c data m) := by
  cases c with
  | unattributed => exact hs
  | policy off =>
    have hi : (if whole m then s.immediateWrite off data else s) = s := if_neg (by simp [hm])
    exact of_ite (by rw [hi]; exact hs) (h.stagedWrite _ data m hs)
  | report off => exact h.reportWrite off data m hs
  | pixel f b x line z => exact h.liveWrite f b hs
  | padding f b => exact h.liveWrite f b hs
  | other c => exact hs

theorem serviceWrite (h : EventRule P Q) (off : Nat) (data : Word) (m : Mask) (hs : P s) :
    Q (s.serviceWrite off data m) := by
  have hd : P (s.driveStore data m) := h.inert hs rfl
  exact of_ite (h.weaken hd) (of_ite (h.weaken hs) (h.takeWrite _ data m hd))

/-! ### Read beats -/

theorem deliver (h : EventRule P Q) (w : Word) (hs : P s) : P (s.deliver w) := h.inert hs rfl

theorem readBeat (h : EventRule P Q) (w : Option Nat) (data : Word) (hs : P s) : P (s.readBeat w data) := by
  unfold State.readBeat
  cases hc : s.classify w with
  | unattributed => exact h.deliver _ hs
  | policy off => exact h.deliver _ hs
  | report off => exact h.modReport (·.readLock off) (h.deliver _ hs)
  | pixel f b x l z => exact h.pixelRead b z data (classify_line_lt hc) hs
  | padding f b => exact h.deliver _ hs
  | other c => exact h.deliver _ hs

theorem reportReadBeat (h : EventRule P Q) (off : Nat) (hs : P s) : P (s.reportReadBeat off) :=
  of_ite (h.modReport (·.readLock off) (h.deliver _ hs)) hs

/-! ### Positions -/

theorem setTracker (h : EventRule P Q) (t : Tracker) (hs : P s) : P (s.setTracker t) := h.inert hs rfl

theorem issueBeat (h : EventRule P Q) (data : Word) (m : Mask) (hs : P s) : Q (s.issueBeat data m) := by
  rcases s.tracker.burst_cases with ⟨w, hw⟩ | ⟨e, hw, he⟩ | hn
  · rw [issueBeat_of_write hw]
    exact h.takeWrite _ data m (h.setTracker _ hs)
  · rw [issueBeat_of_reading hw he]
    exact h.weaken (h.setTracker _ hs)
  · rw [issueBeat_of_no_burst hn]
    exact h.weaken hs

theorem finishPosition (h : EventRule P Q) (hs : P s) : P s.finishPosition := by
  rcases finishPosition_cases s with ⟨hf, -⟩ | ⟨hf, -, -⟩ <;> rw [hf]
  · exact hs
  · rcases s.tracker.burst_cases with ⟨w, hw⟩ | ⟨e, hw, he⟩ | hn
    · rw [issueBeat_of_write hw]
      exact h.takeWrite_masked _ _ rfl (h.setTracker _ hs)
    · rw [issueBeat_of_reading hw he]
      exact h.setTracker _ hs
    · rw [issueBeat_of_no_burst hn]
      exact hs

theorem beginPosition (h : EventRule P Q) (hs : P s) : P s.beginPosition := by
  have ha := h.setTracker s.finishPosition.tracker.advanced (h.finishPosition hs)
  rw [beginPosition_eq]
  exact of_ite (h.settleRestart (h.setTracker _ ha)) ha

theorem passPositions (h : EventRule P Q) (n : Nat) (hs : P s) : P (s.passPositions n) := by
  induction n generalizing s with
  | zero => exact hs
  | succ n ih => exact ih (h.beginPosition hs)

theorem passBegun (h : EventRule P Q) (c : Bool) (hs : P s) : P (s.passBegun c) := of_ite (h.beginPosition hs) hs

theorem untilDue (h : EventRule P Q) (hs : P s) : P s.untilDue := by
  cases hd : s.tracker.due with
  | nil => rwa [untilDue_nil hd]
  | cons d ds => rw [untilDue_cons hd]; exact h.finishPosition (h.passPositions _ hs)

/-! ### The bus commands -/

theorem busCommand (h : EventRule P Q) (c : BusCommand) {f : State → State} (hf : ∀ p, P p → Q (f p)) (hs : P s) :
    Q (s.busCommand c f) := by
  have hd : P (s.driveCommand c) := h.inert hs rfl
  exact of_ite (h.settleRestartAfter (hf _ (h.beginPosition hd))) (h.weaken hd)

theorem anomaly (h : EventRule P Q) (k : Nat) (hs : P s) : P (s.anomaly k) :=
  h.hand (makes_one rfl _ _ _ _ _) hs

theorem anomalyIf (h : EventRule P Q) (c : Bool) (k : Nat) (hs : P s) : P (s.anomalyIf c k) :=
  of_ite (h.anomaly k hs) hs

theorem access (h : EventRule P Q) (b : Fin 4) (hs : P s) : P (s.access b) := by
  rw [access_eq]
  exact h.anomalyIf _ 1 (h.setTracker _ (h.anomalyIf _ 8 hs))

theorem takeReadCommand (h : EventRule P Q) (b : Fin 4) (c : Column) (auto : Bool) (hs : P s) :
    Q (s.takeReadCommand b c auto) :=
  of_ite (h.issueBeat _ _ (h.setTracker _ (h.access b hs))) (h.weaken (h.access b hs))

theorem takeWriteCommand (h : EventRule P Q) (b : Fin 4) (c : Column) (auto : Bool) (data : Word) (m : Mask)
    (hs : P s) : Q (s.takeWriteCommand b c auto data m) := by
  unfold State.takeWriteCommand
  exact h.issueBeat data m (h.setTracker _ (h.access b hs))

theorem takeRefresh (h : EventRule P Q) (hs : P s) : P s.takeRefresh :=
  of_ite (h.setTracker _ (h.anomaly 3 hs)) hs

theorem takeSleep (h : EventRule P Q) (hs : P s) : P s.takeSleep :=
  h.haltStallTimers (h.setTracker _ (h.anomalyIf _ 5 hs))

theorem takeModeLoad (h : EventRule P Q) (c : ModeCodes) (hs : P s) : P (s.takeModeLoad c) := by
  have h4 : P (s.anomalyIf s.tracker.anyOpen 4) := h.anomalyIf _ 4 hs
  have htime (t : State) (k : Nat) : (t.anomaly k).time = t.time := by
    rw [State.anomaly, State.handRecord, State.hand, drain_frame]
  have htime4 : (s.anomalyIf s.tracker.anyOpen 4).time = s.time := by
    unfold State.anomalyIf; split
    · exact htime s 4
    · rfl
  exact of_ite (h.setTracker _ (h.hand (makes_trackRecords htime4 _) h4))
    (h.setTracker _ (h.hand (makes_trackRecords ((htime _ 7).trans htime4) _) (h.anomaly 7 h4)))

/-- Both commands that issue a burst beat. -/
theorem burstCommand (h : EventRule P Q) (data : Word) (m : Mask) (c : Bool) (hs : P s) :
    Q (if s.inReset then s.driveStore data m
      else if c then (s.driveIfWrite data m).burstBeat data m else s) := by
  have hd : P (s.driveIfWrite data m) := of_ite (h.inert hs rfl) hs
  exact of_ite (h.weaken (h.inert hs rfl))
    (of_ite (h.issueBeat data m (of_ite (h.beginPosition hd) hd)) (h.weaken hs))

theorem returnDelivered (h : EventRule P Q) (w : Option Nat) (data : Word) (hs : P s) :
    P (s.returnDelivered w data) :=
  of_ite (h.inert (of_ite (h.readBeat w data (h.settleRestart hs)) (h.settleRestart (h.readBeat w data hs))) rfl)
    (h.readBeat w data hs)

theorem takeReturn (h : EventRule P Q) (data : Word) (m : Mask) (cd : Bool) (hs : P s) :
    P (s.takeReturn data m cd) := by
  unfold State.takeReturn
  split
  · exact hs
  · have hr : P (s.setTracker s.tracker.returned).noteArrival := h.inert hs rfl
    exact of_ite hs (of_ite (h.returnDelivered _ data hr) (h.settleRestart (h.deliver data hr)))

theorem takeUnplaced (h : EventRule P Q) (data : Word) (m : Mask) (cd : Bool) (hs : P s) :
    P (s.takeUnplaced data m cd) := by
  have hn : P s.finishPosition.noteArrival := h.setTracker _ (h.finishPosition hs)
  exact of_ite hs (of_ite (h.readBeat none data hn) (h.deliver data hn))

/-! ### Time and records -/

theorem takeExpiries (h : EventRule P Q) (hs : P s) : P s.takeExpiries :=
  foldl_keeps (fun _ f hs => foldl_keeps (fun _ i hs => h.silentExpiry f i hs) _ hs) _
    (foldl_keeps (fun _ f hs => h.stallExpiry f hs) _ (foldl_keeps (fun _ ch hs => h.staleExpiry ch hs) _ hs))

theorem settleTime (h : EventRule P Q) (hs : P s) : P s.settleTime := h.takeTick (h.takeExpiries hs)

theorem drain_inbox (h : EventRule P Q) (hs : P s) : P (s.drain s.inbox) := by
  have hd := h.hand (makes_nil s) hs
  rwa [State.hand, List.append_nil] at hd

theorem execRecord (h : EventRule P Q) (hs : P s) : ∃ t, execRecord s = .next t ∧ P t := by
  refine ⟨_, rfl, of_ite hs ?_⟩
  split
  · rename_i r rest hin
    have hr := h.drain_inbox (h.modReport Report.choice (h.takeRecord hin hs))
    rwa [← drain_setInbox rest _ rest]
  · exact h.drain_inbox hs

theorem execValidationFailure (h : EventRule P Q) (hs : P s) : ∃ t, execValidationFailure s = .next t ∧ P t := by
  refine ⟨_, rfl, of_ite hs ?_⟩
  split
  · exact h.setPolicy rfl hs
  · exact hs

theorem execSwitch (h : EventRule P Q) (hs : P s) : ∃ t, execSwitch s = .next t ∧ P t := by
  refine ⟨_, rfl, ?_⟩
  split
  · exact hs
  · rename_i hno
    simp only [Bool.or_eq_true, not_or, Option.not_isSome_iff_eq_none] at hno
    exact h.switched hno.2 hs

/-! ### Every command -/

theorem tileFrame (h : EventRule P Q) (b0 b1 b2 b3 b4 : Byte) (hs : P s) :
    ∃ t, execTileFrameArrival b0 b1 b2 b3 b4 s = .next t ∧ P t := by
  refine ⟨_, rfl, of_ite hs (of_ite (h.linkError hs) ?_)⟩
  split
  · exact h.discardTile hs
  · rename_i hc
    exact h.goodTile _ _ _ _ (by simpa using hc) hs

theorem weakenExists (h : EventRule P Q) {o : Host.Outcome State Fault Refusal} (ho : ∃ t, o = .next t ∧ P t) :
    ∃ t, o = .next t ∧ Q t := ho.imp fun _ => And.imp_right h.weaken

/-- Every command but the resets answers a state of which Q holds. -/
theorem exec (h : EventRule P Q) {c : Instr} (hr : isReset c = false) (hs : P s) : ∃ t, exec c s = .next t ∧ Q t := by
  have hb {p : State} (hp : P p) (c : BusCommand) {f : State → State} (hf : ∀ p, P p → P (f p)) :
      Q (p.busCommand c f) := h.busCommand c (fun p hp => h.weaken (hf p hp)) hp
  cases c with
  | powerOnReset => simp [isReset] at hr
  | resetLine => simp [isReset] at hr
  | resetRelease p => simp [isReset] at hr
  | suspend =>
    exact ⟨_, rfl, h.weaken (of_ite (h.setTracker _ (h.finishPosition (h.passBegun _ hs))) hs)⟩
  | resume => exact ⟨_, rfl, h.weaken (of_ite hs (h.setTracker _ hs))⟩
  | openBank b r => exact ⟨_, rfl, hb hs _ fun p hp => h.setTracker _ (h.anomalyIf _ 2 hp)⟩
  | read b c auto => exact ⟨_, rfl, h.busCommand _ (fun p hp => h.takeReadCommand b c auto hp) hs⟩
  | write b c auto data m =>
    exact ⟨_, rfl, h.busCommand _ (fun p hp => h.takeWriteCommand b c auto data m hp) (h.inert hs rfl)⟩
  | close b => exact ⟨_, rfl, hb hs _ fun p hp => h.setTracker _ hp⟩
  | closeAll => exact ⟨_, rfl, hb hs _ fun p hp => h.setTracker _ hp⟩
  | refresh => exact ⟨_, rfl, hb hs _ fun p hp => h.takeRefresh hp⟩
  | sleepEnter => exact ⟨_, rfl, hb (h.passBegun _ hs) _ fun p hp => h.takeSleep hp⟩
  | sleepExit =>
    have hd : P (s.driveCommand .sleepExit) := h.inert hs rfl
    exact ⟨_, rfl, h.weaken (of_ite hd (h.restartStallTimers (h.beginPosition (h.setTracker _ hd))))⟩
  | modeLoad c => exact ⟨_, rfl, hb hs _ fun p hp => h.takeModeLoad c hp⟩
  | burstStop => exact ⟨_, rfl, hb hs _ fun p hp => h.setTracker _ hp⟩
  | noOperation => exact ⟨_, rfl, hb hs _ fun p hp => hp⟩
  | burstBeatIssue data m => exact ⟨_, rfl, h.burstCommand data m _ hs⟩
  | burstComplete data m => exact ⟨_, rfl, h.burstCommand data m _ hs⟩
  | readBeatReturn data m cd =>
    exact ⟨_, rfl, h.weaken (of_ite (h.deliver _ hs) (of_ite (h.takeReturn data m cd (h.untilDue hs)) hs))⟩
  | unplacedArrival data m cd =>
    exact ⟨_, rfl, h.weaken (of_ite (h.deliver _ hs) (of_ite (h.takeUnplaced data m cd (h.passBegun _ hs)) hs))⟩
  | stagingWrite off data m => exact ⟨_, rfl, h.serviceWrite _ _ _ hs⟩
  | timeWordWrite data m => exact ⟨_, rfl, h.serviceWrite _ _ _ hs⟩
  | modeDeclaration data m => exact ⟨_, rfl, h.serviceWrite _ _ _ hs⟩
  | commitRequest data m => exact ⟨_, rfl, h.serviceWrite _ _ _ hs⟩
  | validationFailure => exact h.weakenExists (h.execValidationFailure hs)
  | switch => exact h.weakenExists (h.execSwitch hs)
  | restartRequest data m => exact ⟨_, rfl, h.serviceWrite _ _ _ hs⟩
  | monitorRestart => exact ⟨_, rfl, h.weaken (of_ite hs (h.restart hs))⟩
  | run f up m => exact ⟨_, rfl, h.serviceWrite _ _ _ hs⟩
  | hold f up m => exact ⟨_, rfl, h.serviceWrite _ _ _ hs⟩
  | blank f up m => exact ⟨_, rfl, h.serviceWrite _ _ _ hs⟩
  | dark f up m => exact ⟨_, rfl, h.serviceWrite _ _ _ hs⟩
  | release f up m => exact ⟨_, rfl, h.serviceWrite _ _ _ hs⟩
  | oneMsEvent => exact ⟨_, rfl, of_ite (h.weaken hs) (h.ms1 (h.settleTime hs))⟩
  | dimmingTick => exact ⟨_, rfl, h.weaken (of_ite hs (h.takeTick hs))⟩
  | sensorFrameArrival n0 n1 n2 n3 n4 n5 =>
    exact ⟨_, rfl, h.weaken (of_ite hs (of_ite (h.goodFrame _ _ (sampleCode_le _ _ _ _) hs) (h.badSample _ hs)))⟩
  | sensorIncompleteFrame => exact ⟨_, rfl, h.weaken (of_ite hs (h.shortFrame hs))⟩
  | staleTimerExpiry ch => exact ⟨_, rfl, h.weaken (of_ite hs (h.staleExpiry ch hs))⟩
  | stallTimerExpiry f => exact ⟨_, rfl, h.weaken (of_ite hs (h.stallExpiry f hs))⟩
  | tileFrameArrival b0 b1 b2 b3 b4 => exact h.weakenExists (h.tileFrame b0 b1 b2 b3 b4 hs)
  | tileIncompleteFrame => exact ⟨_, rfl, h.weaken (of_ite hs (h.linkError hs))⟩
  | silentTimerExpiry f i => exact ⟨_, rfl, h.weaken (of_ite hs (h.silentExpiry f i hs))⟩
  | record => exact h.weakenExists (h.execRecord hs)
  | choice => exact ⟨_, rfl, h.weaken (of_ite hs (h.modReport _ hs))⟩
  | writeEnd => exact ⟨_, rfl, h.weaken (of_ite hs (h.modReport _ hs))⟩
  | acknowledgment k m => exact ⟨_, rfl, h.serviceWrite _ _ _ hs⟩
  | slotInactive k m => exact ⟨_, rfl, h.serviceWrite _ _ _ hs⟩
  | filterWrite k data m => exact ⟨_, rfl, h.serviceWrite _ _ _ hs⟩
  | headerRead k => exact ⟨_, rfl, h.weaken (h.reportReadBeat _ hs)⟩
  | stampWordRead => exact ⟨_, rfl, h.weaken (h.reportReadBeat _ hs)⟩
  | reservedWrite off data m => exact ⟨_, rfl, h.serviceWrite _ _ _ hs⟩

end EventRule

end Sys2Proof.Machine
end

section
/-! SUPPORT. What a record carries, and that every command hands over records of its own time alone (R70, R147). -/

namespace Sys2Proof.Machine

/-! ### What waits -/

/-- Every record that waits has waited in the first state, or carries its time (R70). -/
def StampedSince (s t : State) : Prop := ∀ r, Notice.record r ∈ t.inbox → Notice.record r ∈ s.inbox ∨ r.MadeIn s

/-- The same, where time has not moved. -/
structure StampingSince (s t : State) : Prop where
  stamp : t.time.stamp = s.time.stamp
  tod : t.time.tod = s.time.tod
  stamped : StampedSince s t

theorem StampedSince.of_inbox {s t u : State} (h : StampedSince s t)
    (hu : ∀ r, Notice.record r ∈ u.inbox → Notice.record r ∈ t.inbox) : StampedSince s u :=
  fun r hr => h r (hu r hr)

theorem StampingSince.of_inbox {s t u : State} (h : StampingSince s t) (hs : u.time.stamp = t.time.stamp)
    (hd : u.time.tod = t.time.tod) (hu : ∀ r, Notice.record r ∈ u.inbox → Notice.record r ∈ t.inbox) :
    StampingSince s u := ⟨hs.trans h.stamp, hd.trans h.tod, h.stamped.of_inbox hu⟩

/-- An operation that leaves time and what waits. -/
theorem StampingSince.of_eq {s t u : State} (h : StampingSince s t) (ht : u.time = t.time) (hi : u.inbox = t.inbox) :
    StampingSince s u := h.of_inbox (by rw [ht]) (by rw [ht]) fun r hr => hi ▸ hr

theorem mem_drain_inbox {n : Notice} {ns : List Notice} {s : State} (h : n ∈ (s.drain ns).inbox) : n ∈ ns := by
  induction ns generalizing s with
  | nil => exact h
  | cons m ns ih =>
    cases m with
    | record r => exact h
    | completion f => exact List.mem_cons_of_mem _ (ih h)
    | stallEnded f => exact List.mem_cons_of_mem _ (ih h)

theorem StampingSince.hand {s t : State} {ns : List Notice} (hn : t.Makes ns) (h : StampingSince s t) :
    StampingSince s (t.hand ns) where
  stamp := by rw [State.hand, drain_frame]; exact h.stamp
  tod := by rw [State.hand, drain_frame]; exact h.tod
  stamped r hr := by
    rcases List.mem_append.mp (mem_drain_inbox hr) with hr | hr
    · exact h.stamped r hr
    · obtain ⟨hs, hm⟩ := hn r hr
      exact .inr ⟨hs.trans h.stamp, hm.trans (by rw [h.tod])⟩

theorem mem_putBehindLast {α : Type} {p : α → Bool} {x y : α} {l : List α} (h : y ∈ putBehindLast p x l) :
    y = x ∨ y ∈ l := by
  induction l with
  | nil => exact .inr h
  | cons z l ih =>
    simp only [putBehindLast] at h
    split at h
    · rcases List.mem_cons.mp h with rfl | h
      · exact .inr List.mem_cons_self
      · exact (ih h).imp_right (List.mem_cons_of_mem _)
    · split at h
      · simp only [List.mem_cons] at h ⊢
        tauto
      · exact .inr h

theorem StampingSince.endStall {s t : State} (f : Fin 8) (h : StampingSince s t) : StampingSince s (t.endStall f) :=
  h.of_inbox rfl rfl fun _ hr => (mem_putBehindLast hr).resolve_left fun he => nomatch he

/-! ### What the monitors hand over -/

theorem makes_startRecords {s t : State} (ht : t.time = s.time) (f : Fin 8) (b : Buffer) :
    t.Makes (s.startRecords f b) := by
  unfold State.startRecords
  refine Makes.append ?_ (Makes.ite (makes_one ht _ _ _ _ _) (makes_nil t))
  split
  · exact Makes.ite (makes_one ht _ _ _ _ _) (makes_nil t)
  · exact makes_one ht _ _ _ _ _
  · exact makes_nil t

theorem makes_scalerNotices {s t : State} (ht : t.time = s.time) (f : Fin 8) : t.Makes (s.scalerNotices f) :=
  Makes.ite (makes_nil t) (Makes.append (Makes.ite (makes_one ht _ _ _ _ _) (makes_nil t)) fun _ h => by simp at h)

theorem makes_goodRecords {s t : State} (ht : t.time = s.time) (ch : Fin 4) (code : Nat) (flag : Bool) :
    t.Makes (s.goodRecords ch code flag) :=
  Makes.append (Makes.append (Makes.ite (makes_one ht _ _ _ _ _) (makes_nil t))
    (Makes.ite (makes_one ht _ _ _ _ _) (makes_nil t))) (Makes.ite (makes_one ht _ _ _ _ _) (makes_nil t))

theorem makes_memberRecord {s t : State} (ht : t.time = s.time) (i k : Nat) (old new : BitVec 4) (o c : Byte) :
    t.Makes (s.memberRecord i k old new o c) :=
  Makes.ite (makes_one ht _ _ _ _ _) (Makes.ite (makes_one ht _ _ _ _ _) (makes_nil t))

theorem makes_tileRecords {s t : State} (ht : t.time = s.time) (i : Nat) (e : TileEntry) (st : BitVec 4)
    (o c : Byte) : t.Makes (s.tileRecords i e st o c) :=
  have hm (k : Nat) := makes_memberRecord ht i k e.status st o c
  Makes.append (Makes.append (Makes.append (Makes.append (Makes.ite (makes_one ht _ _ _ _ _) (makes_nil t)) (hm 0))
    (hm 1)) (hm 2)) (hm 3)

theorem StampingSince.startBeat {s t : State} (f : Fin 8) (b : Buffer) (l : Nat) (z : Fin 16) (w : Word)
    (h : StampingSince s t) : StampingSince s (t.startBeat f b l z w) := by
  have hs : StampingSince s (t.frameStarted f b l) := h.of_eq rfl rfl
  have hmakes (u : State) (hu : u.time = t.time) : u.Makes (t.startRecords f b ++ t.scalerNotices f) :=
    Makes.append (makes_startRecords hu f b) (makes_scalerNotices hu f)
  have hafter : StampingSince s
      (((t.frameStarted f b l).hand (t.startRecords f b ++ t.scalerNotices f)).scalePixel f z w) :=
    StampingSince.of_eq (.hand (hmakes (t.frameStarted f b l) rfl) hs) rfl rfl
  have hbefore : StampingSince s
      (((t.frameStarted f b l).scalePixel f z w).hand (t.startRecords f b ++ t.scalerNotices f)) :=
    .hand (hmakes ((t.frameStarted f b l).scalePixel f z w) rfl) (hs.of_eq rfl rfl)
  exact of_ite hafter (StampingSince.of_eq (of_ite hafter hbefore) rfl rfl)

/-! ### The rule -/

theorem stampingRule (s : State) : EventRule (StampingSince s) (StampedSince s) where
  weaken h := h.stamped
  inert h hw := by
    obtain ⟨-, -, ht, -, -, -, hi⟩ : _ ∧ _ ∧ _ ∧ _ ∧ _ ∧ _ ∧ _ := by simpa [State.watched] using hw
    exact h.of_eq ht hi
  hand := .hand
  endStall f h := h.endStall f
  restart h := h.of_eq rfl rfl
  restartAfter h := h
  liveWrite f b h := of_ite (h.of_eq rfl rfl) h
  modeWritten f m up h := h.of_eq rfl rfl
  releaseFace f h := h.of_eq rfl rfl
  setTime _ _ h := h.stamped
  pixelRead b z w _ h :=
    of_ite (h.of_eq rfl rfl) (of_ite (StampingSince.startBeat _ _ _ _ _ (h.of_eq rfl rfl)) (h.of_eq rfl rfl))
  haltStallTimers h := h.of_eq rfl rfl
  restartStallTimers h := h.of_eq rfl rfl
  staleExpiry ch h := of_ite (.hand (makes_one rfl _ _ _ _ _) (h.of_eq rfl rfl)) h
  stallExpiry f h := of_ite (.hand (makes_one rfl _ _ _ _ _) (h.of_eq rfl rfl)) h
  silentExpiry f i h := of_ite (.hand (makes_one rfl _ _ _ _ _) (h.of_eq rfl rfl)) h
  takeTick h := of_ite (h.of_inbox rfl rfl fun _ hr => hr) h
  ms1 h := h.stamped
  goodFrame ch flag _ h := .hand (makes_goodRecords rfl _ _ _) (h.of_eq rfl rfl)
  badSample ch h := .hand (Makes.ite (makes_one rfl _ _ _ _ _) (makes_nil _)) (h.of_eq rfl rfl)
  shortFrame h := h.of_eq rfl rfl
  goodTile i st o t _ h := .hand (makes_tileRecords rfl _ _ _ _ _) (h.of_eq rfl rfl)
  linkError h := h.of_eq rfl rfl
  discardTile h := h.of_eq rfl rfl
  takeRecord {t r rest} hin h := by
    have ht : (t.takeRecord r).time = t.time := by rw [takeRecord_frame]
    exact h.of_inbox (by rw [ht]) (by rw [ht]) fun q hq => by rw [hin]; exact List.mem_cons_of_mem _ hq
  switched {t} _ h := by
    rw [switched_eq]
    have ha : StampingSince s t.announced := h.of_eq rfl rfl
    exact foldl_keeps (fun u f hu => of_ite (StampingSince.endStall f hu) hu) _ ha

/-- A reset leaves nothing that waits, or changes nothing. -/
theorem exec_reset_inbox {s t : State} {c : Instr} (hc : isReset c = true) (he : exec c s = .next t) :
    t.inbox = [] ∨ t = s := by
  cases c <;> simp only [isReset, Bool.false_eq_true] at hc
  case powerOnReset => cases he; exact .inl rfl
  case resetLine => cases he; exact .inl rfl
  case resetRelease p =>
    cases he
    split
    · exact .inl rfl
    · exact .inr rfl

/-- The key of a record, in arithmetic (12.5). -/
theorem recordKey_toNat (k : SourceKind) {index cls : Nat} (hi : index < 256) (hc : cls < 32) :
    (recordKey k index cls).toNat = cls + 32 * index + 8192 * k.code := by
  have hk : k.code ≤ 4 := by cases k <;> decide
  rw [recordKey, BitVec.toNat_ofNat]
  omega

/-- Settles O51: a record is made with the time of its state, and by `stampingRule` no command hands over another. -/
theorem recordContents : Obligations.RecordContents := by
  refine ⟨fun s k index cls value e hi hc hv => ?_, fun s t c r he hr hno => ?_⟩
  · refine ⟨?_, rfl, ?_, rfl, rfl⟩
    · rw [State.mkRecord, recordKey_toNat k hi hc]
      cases k <;> rfl
    · exact Nat.mod_eq_of_lt hv
  · cases hc : isReset c with
    | true =>
      rcases exec_reset_inbox hc he with h | h
      · rw [h] at hr
        exact absurd hr List.not_mem_nil
      · exact absurd (h ▸ hr) hno
    | false =>
      obtain ⟨u, hu, hk⟩ := (stampingRule s).exec hc ⟨rfl, rfl, fun _ hr => .inl hr⟩
      rw [hu] at he
      cases he
      exact (hk r hr).resolve_left hno

end Sys2Proof.Machine
end

section
/-! SUPPORT. The monitors part by part: what a channel, a tile entry, a level, a frame, a scan monitor and a cause set
keep at each event of their own (5.2, 6.1, 7.1, 8.1, 9.2, 10.3). -/

namespace Sys2Proof.Machine

/-! ### Timers and time (R66, R67, R69) -/

@[simp] theorem Timer.ms_eq_stopped (t : Timer) : t.ms = .stopped ↔ t = .stopped := by
  match t with
  | .stopped => simp [Timer.ms]
  | .halted => simp [Timer.ms]
  | .running 0 => simp [Timer.ms]
  | .running (n + 1) => simp [Timer.ms]

@[simp] theorem Timer.ms_isRunning (t : Timer) : t.ms.isRunning = t.isRunning := by
  match t with
  | .stopped => rfl
  | .halted => rfl
  | .running 0 => rfl
  | .running (n + 1) => rfl

/-- A timer whose expiry is due has counted its last 1 ms event. -/
theorem Timer.due_iff (t : Timer) : t.due = true ↔ t = .running 0 := by
  match t with
  | .stopped => simp [Timer.due]
  | .halted => simp [Timer.due]
  | .running 0 => simp [Timer.due]
  | .running (n + 1) => simp [Timer.due]

/-! ### Channels (R77 to R82) -/

theorem windowAdd_le {w : List Nat} {code : Nat} (hw : ∀ v ∈ w, v ≤ max16) (hc : code ≤ max16) :
    ∀ v ∈ windowAdd w code, v ≤ max16 := by
  intro v hv
  have hmem : v ∈ w ∨ v = code := by
    unfold windowAdd at hv
    split at hv
    · simpa using hv
    · rcases List.mem_append.mp hv with hv | hv
      · exact .inl (List.mem_of_mem_drop hv)
      · exact .inr (by simpa using hv)
  rcases hmem with hv | rfl
  · exact hw v hv
  · exact hc

/-- A window holds nine codes at the most, FRESH or STALE (R77). -/
theorem Channel.Ok.window_length {c : Channel} (h : c.Ok) : c.window.length ≤ 9 := by
  obtain ⟨hfresh, hstale, -⟩ := h
  cases hs : c.state with
  | fresh => exact (hfresh hs).2.2.1
  | stale => simp [(hstale hs).1]

theorem Channel.Ok.good {c : Channel} (h : c.Ok) {code : Nat} (hc : code ≤ max16) (flag : Bool) (now : Stamp)
    (timeout : Nat) : (c.good code flag now timeout).Ok := by
  have hlen := windowAdd_length c.window code h.window_length
  obtain ⟨-, -, hcodes, -, -, -, hsamples, hbad⟩ := h
  have hpos : 1 ≤ (windowAdd c.window code).length := by unfold windowAdd; split <;> simp
  exact ⟨fun _ => ⟨rfl, hpos, hlen, rfl⟩, fun hs => (nomatch hs), windowAdd_le hcodes hc, rfl, rfl, Nat.zero_le _,
    satInc_le hsamples, hbad⟩

theorem Channel.Ok.badFrame {c : Channel} (h : c.Ok) : c.badFrame.Ok := by
  obtain ⟨hfresh, hstale, hcodes, hheard, hactive, hle, hsamples, hbad⟩ := h
  refine ⟨hfresh, hstale, hcodes, hheard, ?_, ?_, hsamples, satInc_le hbad⟩
  · have hgrow : c.consecBad ≤ satInc max16 c.consecBad := by unfold satInc; split <;> omega
    change (c.badActive || decide (3 ≤ satInc max16 c.consecBad)) = decide (3 ≤ satInc max16 c.consecBad)
    rw [hactive, ← Bool.decide_or, decide_eq_decide]
    omega
  · simp only [Channel.badFrame, satInc]
    split <;> split <;> omega

theorem Channel.Ok.stale {c : Channel} (h : c.Ok) : c.stale.Ok := by
  obtain ⟨-, -, -, hrest⟩ := h
  exact ⟨fun hs => (nomatch hs), fun _ => ⟨rfl, rfl, rfl⟩, fun v hv => absurd hv List.not_mem_nil, hrest⟩

theorem Channel.Ok.ms {c : Channel} (h : c.Ok) : ({ c with timer := c.timer.ms } : Channel).Ok := by
  obtain ⟨hfresh, hstale, hrest⟩ := h
  exact ⟨fun hs => by simpa using hfresh hs, fun hs => by simpa using hstale hs, hrest⟩

/-! ### Tile entries (R139 to R142) -/

/-- Only an entry that has been heard and is not silent has a timer to expire. -/
theorem TileEntry.Ok.silence {e : TileEntry} (h : e.Ok) (hd : e.timer.due = true) :
    ({ e with silent := true, timer := .stopped } : TileEntry).Ok := by
  obtain ⟨hcleared, -, -⟩ := h
  refine ⟨fun hh => ?_, fun _ => rfl, fun _ hs => (nomatch hs)⟩
  have he := hcleared hh
  rw [he] at hd
  cases hd

theorem TileEntry.Ok.ms {e : TileEntry} (h : e.Ok) : ({ e with timer := e.timer.ms } : TileEntry).Ok := by
  obtain ⟨hcleared, hsilent, hrunning⟩ := h
  exact ⟨fun hh => by rw [hcleared hh]; rfl, fun hs => by simpa using hsilent hs,
    fun hh hs => by simpa using hrunning hh hs⟩

/-! ### The level of a face (R87 to R106) -/

/-- The held level and the published values are in range (6.1). -/
structure LevelFits (l : LevelState) : Prop where
  held : l.held ≤ 1048320
  target : l.target ≤ 4095
  curve : l.curve ≤ 4095
  cap : l.cap ≤ 4095
  light : ∀ v ∈ l.light, v ≤ max16

theorem slewToward_le {goal rate p n : Nat} (hg : goal ≤ n) (hp : p ≤ n) : slewToward goal rate p ≤ n := by
  unfold slewToward
  split <;> omega

theorem LevelFits.tick {l : LevelState} (h : LevelFits l) (m : Mode) (r : FaceRecord) {light : Option Nat} {c k t : Nat}
    (hl : ∀ v ∈ light, v ≤ max16) (hc : c ≤ 4095) (hk : k ≤ 4095) (ht : t ≤ 4095) :
    LevelFits (l.tick m r light c k t) where
  held := by
    simp only [LevelState.tick]
    split
    · exact h.held
    · exact slewToward_le (by omega) h.held
  target := ht
  curve := hc
  cap := hk
  light := hl

theorem levelFits_configure {n : Nat} (h : n ≤ 4095) : LevelFits (.configure n) :=
  ⟨by simp only [LevelState.configure]; omega, Nat.zero_le _, Nat.zero_le _, Nat.zero_le _, fun _ hv => (nomatch hv)⟩

theorem levelFits_enterDark (l : LevelState) : LevelFits l.enterDark :=
  ⟨Nat.zero_le _, Nat.zero_le _, Nat.zero_le _, Nat.zero_le _, fun _ hv => (nomatch hv)⟩

/-- The catch-up flag decides nothing of the ranges. -/
theorem LevelFits.catchUp {l : LevelState} (h : LevelFits l) (up : Bool) : LevelFits { l with catchUp := up } :=
  ⟨h.held, h.target, h.curve, h.cap, h.light⟩

/-! ### The frame of a face (R113 to R124) -/

/-- The factors and APLs are in range, and the sums are of as many pixels as are counted (7.1, R114). -/
structure PixelFits (p : PixelState) : Prop where
  factor : p.factor ≤ 4096
  aplFactor : p.aplFactor ≤ 4096
  aplIn : p.aplIn ≤ 1023
  aplOut : p.aplOut ≤ 1023
  count : p.count ≤ maxPixels
  sumIn : p.sumIn ≤ p.count * 3069
  sumOut : p.sumOut ≤ p.count * 3069

theorem pixelSum_le (w : Word) : pixelSum w ≤ 3069 := by
  have hB : pixelB w < 1024 := bits_lt w 0 10
  have hG : pixelG w < 1024 := bits_lt w 10 10
  have hR : pixelR w < 1024 := bits_lt w 20 10
  unfold pixelSum
  omega

theorem aplFactorOf_le (m a : Nat) : aplFactorOf m a ≤ 4096 := by
  unfold aplFactorOf
  split
  · exact le_rfl
  · rename_i h
    simp only [Bool.or_eq_true, decide_eq_true_eq] at h
    exact Nat.div_le_of_le_mul (Nat.mul_le_mul_right 4096 (by omega))

/-- An APL of sums within 3 × 1,023 for each pixel is a component's value (R114). -/
theorem apl_le {sum count : Nat} (h : sum ≤ count * 3069) : sum / (3 * count) ≤ 1023 := by
  have hsum : sum ≤ 3 * count * 1023 := h.trans_eq (by ring)
  exact Nat.div_le_of_le_mul hsum

theorem PixelFits.abandon {p : PixelState} (h : PixelFits p) : PixelFits p.abandon :=
  ⟨h.factor, h.aplFactor, h.aplIn, h.aplOut, Nat.zero_le _, Nat.zero_le _, Nat.zero_le _⟩

theorem PixelFits.restart {p : PixelState} (h : PixelFits p) : PixelFits p.restart :=
  ⟨h.factor, le_rfl, h.aplIn, h.aplOut, Nat.zero_le _, Nat.zero_le _, Nat.zero_le _⟩

theorem pixelFits_configure {n : Nat} (h : n ≤ 4095) : PixelFits (.configure n) :=
  ⟨Nat.le_succ_of_le h, le_rfl, Nat.zero_le _, Nat.zero_le _, Nat.zero_le _, Nat.zero_le _, Nat.zero_le _⟩

theorem PixelFits.complete {p : PixelState} (h : PixelFits p) (m : Nat) : PixelFits (p.complete m) :=
  ⟨h.factor, aplFactorOf_le _ _, apl_le h.sumIn, apl_le h.sumOut, h.count, h.sumIn, h.sumOut⟩

theorem PixelFits.openFrame {p : PixelState} (h : PixelFits p) (n : Nat) : PixelFits (p.openFrame n) :=
  ⟨(Nat.min_le_right _ _).trans h.aplFactor, h.aplFactor, h.aplIn, h.aplOut, Nat.zero_le _, Nat.zero_le _,
    Nat.zero_le _⟩

theorem PixelFits.frameStart {p : PixelState} (h : PixelFits p) (m n : Nat) : PixelFits (p.frameStart m n) := by
  unfold PixelState.frameStart
  split
  · exact (h.complete m).openFrame n
  · exact h.openFrame n

theorem frameStart_frameOpen (p : PixelState) (m n : Nat) : (p.frameStart m n).frameOpen = true := by
  unfold PixelState.frameStart
  split <;> rfl

/-- A pixel beat counted or not: an OPEN frame then holds a pixel, and none is opened or closed (R113). -/
theorem PixelFits.countBeat {p : PixelState} (h : PixelFits p) (a b : Word) :
    PixelFits (p.countBeat a b) ∧ (p.countBeat a b).frameOpen = p.frameOpen ∧
      (p.frameOpen = true → 1 ≤ (p.countBeat a b).count) := by
  have ha := pixelSum_le a
  have hb := pixelSum_le b
  obtain ⟨hfactor, haplFactor, haplIn, haplOut, hcount, hin, hout⟩ := h
  unfold PixelState.countBeat
  split
  · rename_i hopen
    simp only [Bool.and_eq_true, decide_eq_true_eq] at hopen
    exact ⟨⟨hfactor, haplFactor, haplIn, haplOut, hopen.2, by simp only []; omega, by simp only []; omega⟩, rfl,
      fun _ => Nat.le_add_left 1 _⟩
  · rename_i hopen
    refine ⟨⟨hfactor, haplFactor, haplIn, haplOut, hcount, hin, hout⟩, rfl, fun ho => ?_⟩
    have hfull : ¬ p.count < maxPixels := fun hlt => hopen (by simp [ho, hlt])
    exact (by decide : 1 ≤ maxPixels).trans (not_lt.mp hfull)

/-! ### The scan monitor of a face (R125 to R136) -/

/-- The stall timer only while SCANNING, and then no more lines seen than lie up to the last line, which is within the
height (R126, R127). -/
structure ScanFits (height : Nat) (x : ScanState) : Prop where
  timer : x.timer ≠ .stopped → x.state = .scanning
  lines : x.state = .scanning → x.linesSeen ≤ x.lastLine + 1 ∧ x.lastLine < height ∧ x.linesSeen ≤ height
  live : x.liveWrites ≤ max16

/-- A monitor that is not SCANNING and whose timer is stopped. -/
theorem scanFits_of_stopped {x : ScanState} (n : Nat) (hs : x.state ≠ .scanning) (ht : x.timer = .stopped)
    (hl : x.liveWrites ≤ max16) : ScanFits n x := ⟨fun h => absurd ht h, fun h => absurd h hs, hl⟩

theorem ScanFits.toNoSignal {m n : Nat} {x : ScanState} (h : ScanFits m x) : ScanFits n x.toNoSignal :=
  scanFits_of_stopped n (by simp [ScanState.toNoSignal]) rfl h.live

theorem scanFits_restart (n : Nat) (x : ScanState) : ScanFits n x.restart :=
  scanFits_of_stopped n (by simp [ScanState.restart]) rfl (Nat.zero_le _)

theorem scanFits_configure (n : Nat) : ScanFits n .configure :=
  scanFits_of_stopped n (by decide) rfl (Nat.zero_le _)

theorem ScanFits.started {m n : Nat} {x : ScanState} (h : ScanFits m x) (b : Buffer) {l : Nat} (hl : l < n)
    (now : Stamp) (t : Timer) : ScanFits n { x.started b l now with timer := t } :=
  ⟨fun _ => rfl, fun _ => ⟨Nat.le_add_left 1 l, hl, by simp only [ScanState.started]; omega⟩, h.live⟩

/-- A beat that goes on with the frame: at most one line more is seen, up to its own (R126). -/
theorem ScanFits.continued {n : Nat} {x : ScanState} (h : ScanFits n x) (hs : x.state = .scanning)
    {l : Nat} (hl : l < n) (t : Timer) : ScanFits n (({ x with timer := t } : ScanState).continued l) := by
  obtain ⟨hseen, hlast, hheight⟩ := h.lines hs
  unfold ScanState.continued
  split
  · rename_i hlt
    simp only [] at hlt
    exact ⟨fun _ => hs, fun _ => ⟨by simp only []; omega, hl, by simp only []; omega⟩, h.live⟩
  · exact ⟨fun _ => hs, fun _ => ⟨hseen, hlast, hheight⟩, h.live⟩

theorem continued_state (x : ScanState) (l : Nat) : (x.continued l).state = x.state := by
  unfold ScanState.continued
  split <;> rfl

/-- Another timer, while SCANNING. -/
theorem ScanFits.setTimer {n : Nat} {x : ScanState} (h : ScanFits n x) (hs : x.state = .scanning) (t : Timer) :
    ScanFits n { x with timer := t } := ⟨fun _ => hs, h.lines, h.live⟩

theorem ScanFits.ms {n : Nat} {x : ScanState} (h : ScanFits n x) : ScanFits n { x with timer := x.timer.ms } :=
  ⟨fun ht => h.timer (by simpa using ht), h.lines, h.live⟩

theorem ScanFits.liveWrite {n : Nat} {x : ScanState} (h : ScanFits n x) :
    ScanFits n { x with liveWrites := satInc max16 x.liveWrites } := ⟨h.timer, h.lines, satInc_le h.live⟩

/-! ### Cause sets (10.3, 10.4) -/

/-- A change of causes that leaves class and source of each. -/
theorem causesOk_map {cs : List Cause} (h : causesOk cs) {g : Cause → Cause}
    (hg : ∀ c, (g c).cls = c.cls ∧ (g c).src = c.src) : causesOk (cs.map g) := by
  obtain ⟨hdistinct, hcls⟩ := h
  refine ⟨?_, fun c hc => ?_⟩
  · have hcomp : (fun c : Cause => (c.cls, c.src)) ∘ g = fun c => (c.cls, c.src) :=
      funext fun c => Prod.ext (hg c).1 (hg c).2
    rwa [distinctCauses, List.map_map, hcomp]
  · obtain ⟨d, hd, rfl⟩ := List.mem_map.mp hc
    rw [(hg d).1]
    exact hcls d hd

theorem causesOk_filter {cs : List Cause} (h : causesOk cs) (p : Cause → Bool) : causesOk (cs.filter p) :=
  ⟨h.1.sublist (List.filter_sublist.map _), fun c hc => h.2 c (List.mem_of_mem_filter hc)⟩

theorem causesOk_setCond {cs : List Cause} (h : causesOk cs) (cls src : Nat) (v : Bool) :
    causesOk (setCond cs cls src v) := causesOk_map h fun c => by split <;> exact ⟨rfl, rfl⟩

theorem causesOk_dropChannels {cs : List Cause} (h : causesOk cs) (mask : BitVec 4) :
    causesOk (dropChannels mask cs) := causesOk_map h fun c => by split <;> exact ⟨rfl, rfl⟩

theorem hasCause_iff (cs : List Cause) (cls src : Nat) :
    hasCause cs cls src = true ↔ (cls, src) ∈ cs.map fun c => (c.cls, c.src) := by
  simp [hasCause, Cause.is]

/-- A strike adds a cause of its class and source only where there is none (R150). -/
theorem causesOk_strike {cs : List Cause} (h : causesOk cs) {cls : Nat} (hcls : cls ∈ faceClasses) (src : Nat)
    (onset latch : Bool) : causesOk (strike cs cls src onset latch) := by
  unfold strike
  split
  · exact causesOk_map h fun c => by split <;> exact ⟨rfl, rfl⟩
  · rename_i hno
    rw [hasCause_iff] at hno
    refine ⟨?_, fun c hc => ?_⟩
    · rw [distinctCauses, List.map_append, List.nodup_append']
      exact ⟨h.1, List.nodup_singleton _, by simpa using hno⟩
    · rcases List.mem_append.mp hc with hc | hc
      · exact h.2 c hc
      · obtain rfl := List.mem_singleton.mp hc
        exact hcls

/-- The two sets of a face hold causes of face classes without repeats, and a face that is not configured holds none
(R156). -/
structure CausesFit (configured : Bool) (c : CauseState) : Prop where
  blank : causesOk c.blank
  derate : causesOk c.derate
  clean : c.clean ≤ 255
  empty : configured = false → c = .reset

theorem causesFit_reset (b : Bool) : CausesFit b .reset :=
  ⟨by decide, by decide, Nat.zero_le _, fun _ => rfl⟩

theorem CausesFit.ended {b : Bool} {c : CauseState} (h : CausesFit b c) (cls src : Nat) :
    CausesFit b (c.ended cls src) where
  blank := causesOk_setCond h.blank _ _ _
  derate := causesOk_setCond h.derate _ _ _
  clean := h.clean
  empty hb := by rw [h.empty hb]; rfl

theorem CausesFit.released {b : Bool} {c : CauseState} (h : CausesFit b c) : CausesFit b c.released where
  blank := causesOk_filter h.blank _
  derate := causesOk_filter h.derate _
  clean := Nat.zero_le _
  empty hb := by rw [h.empty hb]; rfl

theorem CausesFit.completed {c : CauseState} (h : CausesFit true c) (n : Nat) : CausesFit true (c.completed n) := by
  unfold CauseState.completed
  split
  · exact ⟨h.blank, h.derate, Nat.zero_le _, fun hb => (nomatch hb)⟩
  · split
    · exact h
    · split
      · exact ⟨causesOk_filter h.blank _, causesOk_filter h.derate _, Nat.zero_le _, fun hb => (nomatch hb)⟩
      · exact ⟨h.blank, h.derate, satInc_le h.clean, fun hb => (nomatch hb)⟩

theorem CausesFit.dropChannels {c : CauseState} (h : CausesFit true c) (mask : BitVec 4) :
    CausesFit true
      { c with blank := Machine.dropChannels mask c.blank, derate := Machine.dropChannels mask c.derate } :=
  ⟨causesOk_dropChannels h.blank mask, causesOk_dropChannels h.derate mask, h.clean, fun hb => (nomatch hb)⟩

theorem CausesFit.onset {c : CauseState} (h : CausesFit true c) (cls src : Nat) : CausesFit true (c.onset cls src) where
  blank := causesOk_setCond h.blank _ _ _
  derate := causesOk_setCond h.derate _ _ _
  clean := by
    simp only [CauseState.onset]
    split
    · exact Nat.zero_le _
    · exact h.clean
  empty hb := nomatch hb

/-- A strike of an action that only face classes hold (R52, R56). -/
theorem CausesFit.struck {c : CauseState} (h : CausesFit true c) {cls : Nat} (src : Nat) {act : Action}
    (hact : act = .blank ∨ act = .derate → cls ∈ faceClasses) (onset latch : Bool) :
    CausesFit true (c.struck cls src act onset latch) := by
  cases act with
  | none => exact h
  | report => exact h
  | derate => exact ⟨h.blank, causesOk_strike h.derate (hact (.inr rfl)) _ _ _, Nat.zero_le _, fun hb => (nomatch hb)⟩
  | blank => exact ⟨causesOk_strike h.blank (hact (.inl rfl)) _ _ _, h.derate, Nat.zero_le _, fun hb => (nomatch hb)⟩

theorem CausesFit.take {c : CauseState} (h : CausesFit true c) {cls : Nat} (src : Nat) (e : EventKind) {act : Action}
    (hact : act = .blank ∨ act = .derate → cls ∈ faceClasses) (latch : Bool) :
    CausesFit true (c.take cls src e act latch) := by
  cases e with
  | onset => exact (h.onset cls src).struck src hact _ _
  | occurrence => exact h.struck src hact _ _
  | clear => exact h.ended cls src

end Sys2Proof.Machine
end

section
/-! SUPPORT. The bounds that validated tables and channels in their situations give the Level Engine and the Constraint
Block (R56, R71, R72, R77, R84, R88 to R92). -/

namespace Sys2Proof.Machine

/-! ### The schedule (R71, R72) -/

/-- The entry with the greatest start of a list is one of the list, and none starts after it. -/
theorem greatestStart_spec {es : List SchedEntry} {e : SchedEntry} (h : greatestStart es = some e) :
    e ∈ es ∧ ∀ g ∈ es, g.start ≤ e.start := by
  induction es generalizing e with
  | nil => cases h
  | cons x es ih =>
    cases hg : greatestStart es with
    | none =>
      simp only [greatestStart, hg, Option.some_inj] at h
      subst h
      cases es with
      | nil => simp
      | cons y es =>
        simp only [greatestStart] at hg
        split at hg
        · cases hg
        · split at hg <;> cases hg
    | some g =>
      obtain ⟨hmem, hle⟩ := ih hg
      simp only [greatestStart, hg] at h
      split at h
      · cases h
        exact ⟨List.mem_cons_self, List.forall_mem_cons.mpr ⟨le_rfl, fun y hy => (hle y hy).trans ‹_›⟩⟩
      · cases h
        exact ⟨List.mem_cons_of_mem _ hmem, List.forall_mem_cons.mpr ⟨by omega, hle⟩⟩

theorem greatestStart_eq_none {es : List SchedEntry} : greatestStart es = none ↔ es = [] := by
  refine ⟨fun h => ?_, fun h => by rw [h]; rfl⟩
  cases es with
  | nil => rfl
  | cons x es =>
    simp only [greatestStart] at h
    split at h
    · cases h
    · split at h <;> cases h

theorem capAt_le {es : List SchedEntry} (h : ∀ e ∈ es, e.cap ≤ 4095) (m : Nat) : capAt es m ≤ 4095 := by
  unfold capAt
  split
  · exact h _ (List.mem_of_mem_filter (greatestStart_spec ‹_›).1)
  · split
    · exact h _ (greatestStart_spec ‹_›).1
    · exact le_rfl

theorem checkSchedule_cap_le {below es : List SchedEntry} (h : checkSchedule below es = none) {e : SchedEntry}
    (he : e ∈ es) (hu : e.used = true) : e.cap ≤ 4095 := by
  induction es generalizing below with
  | nil => simp at he
  | cons x es ih =>
    rw [checkSchedule_cons, Option.or_eq_none_iff] at h
    rcases List.mem_cons.mp he with rfl | he
    · by_contra hcap
      simp [entryCheck, hu, hcap] at h
    · exact ih h.2 he

/-! ### Validated tables (R56) -/

section
variable {t : Tables} {base : Nat}

theorem validate_eq_none_iff :
    t.validate base = none ↔
      firstFailure (t.checkFace base) allFaces = none ∧ firstFailure t.checkCurve [0, 1, 2, 3] = none ∧
        checkSchedule [] t.entries = none ∧
        firstFailure (fun v => firstFailure checkTrim v.toList) t.trims.toList = none ∧
        firstFailure t.checkAction (List.finRange 32) = none ∧ firstFailure t.checkParam (List.finRange 7) = none := by
  simp only [Tables.validate, inSection_or_eq_none, inSection_eq_none]

/-- A level between two levels that are within a bound is within it (R89). -/
theorem curveLevel_le {n : Nat} {pts : List (Nat × Nat)} (h : ∀ p ∈ pts, p.2 ≤ n) (l : Nat) : curveLevel pts l ≤ n := by
  induction pts with
  | nil => exact Nat.zero_le n
  | cons p pts ih =>
    cases pts with
    | nil => exact h p List.mem_cons_self
    | cons q pts =>
      have hp : p.2 ≤ n := h p List.mem_cons_self
      have hq : q.2 ≤ n := h q (by simp)
      simp only [curveLevel]
      split
      · exact hp
      · split
        · have hstep : (l - p.1) * (q.2 - p.2) / (q.1 - p.1) ≤ q.2 - p.2 :=
            Nat.div_le_of_le_mul (Nat.mul_le_mul_right _ (by omega))
          omega
        · exact ih fun r hr => h r (List.mem_cons_of_mem _ hr)

theorem curvePoints_le (h : t.validate base = none) (k : Fin 4) : ∀ p ∈ t.curvePoints k, p.2 ≤ 4095 := by
  have hk : t.checkCurve k = none :=
    firstFailure_eq_none.mp (validate_eq_none_iff.mp h).2.1 k (by revert k; decide)
  simp only [Tables.checkCurve] at hk
  split at hk
  · rename_i hzero
    simp [Tables.curvePoints, hzero]
  · split at hk
    · cases hk
    · rw [failUnless_eq, ite_eq_right_iff] at hk
      cases hp : pointsOk (t.curvePoints k) with
      | true => exact ((pointsOk_iff _).mp hp).1
      | false => cases hk hp

theorem entriesOf_cap_le (h : t.validate base = none) (f : Fin 8) : ∀ e ∈ t.entriesOf f, e.cap ≤ 4095 := by
  intro e he
  obtain ⟨hmem, hu⟩ := List.mem_filter.mp he
  exact checkSchedule_cap_le (validate_eq_none_iff.mp h).2.2.1 hmem (Bool.and_eq_true_iff.mp hu).1

theorem unsetCap_le (h : t.validate base = none) : t.unsetCap ≤ 4095 := by
  obtain ⟨-, -, -, -, -, hparams⟩ := validate_eq_none_iff.mp h
  have h0 := firstFailure_finRange_none.mp hparams 0
  rw [Tables.checkParam, failUnless_eq, ite_eq_right_iff] at h0
  by_contra hlarge
  exact nomatch h0 (decide_eq_false hlarge)

/-- Only the classes of faces blank or derate (R52, R56). -/
theorem action_faceClasses (h : t.validate base = none) {c : Fin 32}
    (ha : t.action c = .blank ∨ t.action c = .derate) : c.val ∈ faceClasses := by
  obtain ⟨-, -, -, -, hactions, -⟩ := validate_eq_none_iff.mp h
  have hc := firstFailure_finRange_none.mp hactions c
  have hbits : 1 < bits t.actions[c] 0 2 := by
    by_contra hle
    have hlow : t.action c = .none ∨ t.action c = .report := (actionOf_bus_iff _).mpr (not_lt.mp hle)
    rcases ha with ha | ha <;> simp [ha] at hlow
  rw [checkAction_eq] at hc
  simp only [ite_eq_right_iff, reduceCtorEq, imp_false, not_or, not_and, not_not] at hc
  obtain ⟨hbus, hclass⟩ := hc
  replace hbus := hbus hbits
  replace hclass := hclass (by omega)
  simp only [List.mem_cons, List.not_mem_nil, or_false, faceClasses] at hclass hbus ⊢
  omega

end

/-! ### What the Level Engine computes (R84, R88 to R92) -/

theorem combineLight_le {n : Nat} (useMin : Bool) {vs : List Nat} (h : ∀ v ∈ vs, v ≤ n) :
    ∀ l ∈ combineLight useMin vs, l ≤ n := by
  cases vs with
  | nil => exact fun l hl => (nomatch hl)
  | cons v vs =>
    obtain ⟨hv, hvs⟩ := List.forall_mem_cons.mp h
    intro l hl
    obtain rfl : vs.foldl (fun a b => if useMin then min a b else max a b) v = l := by simpa [combineLight] using hl
    induction vs generalizing v with
    | nil => exact hv
    | cons w vs ih =>
      obtain ⟨hw, hvs⟩ := List.forall_mem_cons.mp hvs
      have hstep : (if useMin then min v w else max v w) ≤ n := by split <;> omega
      exact ih _ (List.forall_mem_cons.mpr ⟨hstep, hvs⟩) hstep hvs rfl

theorem lowerMedian_le {n : Nat} {w : List Nat} (h : ∀ v ∈ w, v ≤ n) : ∀ v ∈ lowerMedian w, v ≤ n := fun v hv =>
  h v ((sortCodes_perm w).mem_iff.mp (List.mem_of_getElem? hv))

theorem faceLight_le {s : State} (h : s.LightOk) (f : Fin 8) : ∀ l ∈ s.faceLight f, l ≤ max16 := by
  refine combineLight_le _ fun v hv => ?_
  obtain ⟨c, -, hc⟩ := List.mem_filterMap.mp hv
  obtain ⟨-, -, hcodes, -⟩ := h.2 c
  split at hc
  · exact lowerMedian_le hcodes v hc
  · cases hc

section
variable {s : State} {base : Nat}

theorem curveOf_le (h : s.policy.active.validate base = none) (f : Fin 8) : s.curveOf f ≤ 4095 := by
  unfold State.curveOf
  split
  · exact curveLevel_le (curvePoints_le h _) _
  · exact Nat.le_of_lt_succ (bits_lt _ 0 12)

theorem curfewCap_le (h : s.policy.active.validate base = none) (f : Fin 8) : s.curfewCap f ≤ 4095 := by
  unfold State.curfewCap
  split
  · exact capAt_le (entriesOf_cap_le h f) _
  · exact unsetCap_le h

theorem targetOf_le (h : s.policy.active.validate base = none) (f : Fin 8) : s.targetOf f ≤ 4095 :=
  (Nat.min_le_left _ _).trans (curveOf_le h f)

end

end Sys2Proof.Machine
end

section
/-! SUPPORT. Every event keeps every channel, tile and face in one of its situations (5.2, 6.1, 7.1, 8.1, 9.2, 10.3). -/

namespace Sys2Proof.Machine

/-! ### The monitors of a state -/

/-- What a face holds apart from its causes; `new` is set between the opening of a frame and its starting beat. -/
structure FaceBody (new : Bool) (r : Region) (m : Mode) (l : LevelState) (p : PixelState) (x : ScanState) : Prop where
  level : LevelFits l
  pixel : PixelFits p
  scan : ScanFits r.height x
  framed : p.frameOpen = true ↔ x.state = .scanning
  counted : new = false → p.frameOpen = true → 1 ≤ p.count
  idle : (r.configured && m != .dark) = false → x.state = .noSignal

/-- What a face holds. -/
structure FaceFits (new : Bool) (r : Region) (x : FaceState) : Prop where
  body : FaceBody new r x.mode x.level x.pixel x.scan
  causes : CausesFit r.configured x.causes

/-- What faces rest on: tables that pass the checks of a commit, their regions, time, channels and tiles. -/
structure Surround (s : State) : Prop where
  valid : ∃ base, s.policy.active.validate base = none
  region : ∀ f, s.RegionOk f
  time : s.TimeOk
  light : s.LightOk
  tiles : s.TilesOk

/-- The monitors of a state, in which at most one face's frame is without its starting beat. -/
structure Monitors (new : Option (Fin 8)) (s : State) : Prop where
  surround : Surround s
  face : ∀ f : Fin 8, FaceFits (decide (new = some f)) s.regions[f] s.faces[f]

theorem facesOk_iff (s : State) : s.FacesOk ↔ ∀ f : Fin 8, FaceFits false s.regions[f] s.faces[f] := by
  refine forall_congr' fun f => ⟨?_, ?_⟩
  · rintro ⟨⟨hheld, htarget, hcurve, hcap, hlight, hfactor, hapl, hin, hout, hframed, hcounted, hcount, hsumIn, hsumOut,
      htimer, hseen, hlive, hblank, hderate, hclean⟩, hlines, hidle, hempty⟩
    exact ⟨⟨⟨hheld, htarget, hcurve, hcap, hlight⟩, ⟨hfactor, hapl, hin, hout, hcount, hsumIn, hsumOut⟩,
      ⟨htimer, fun hs => ⟨hseen hs, hlines hs⟩, hlive⟩, hframed, fun _ => hcounted, hidle⟩,
      ⟨hblank, hderate, hclean, hempty⟩⟩
  · rintro ⟨⟨⟨hheld, htarget, hcurve, hcap, hlight⟩, ⟨hfactor, hapl, hin, hout, hcount, hsumIn, hsumOut⟩,
      ⟨htimer, hlines, hlive⟩, hframed, hcounted, hidle⟩, ⟨hblank, hderate, hclean, hempty⟩⟩
    exact ⟨⟨hheld, htarget, hcurve, hcap, hlight, hfactor, hapl, hin, hout, hframed, hcounted rfl, hcount, hsumIn,
      hsumOut, htimer, fun hs => (hlines hs).1, hlive, hblank, hderate, hclean⟩, fun hs => (hlines hs).2, hidle, hempty⟩

/-- A face in NO SIGNAL without a frame. -/
theorem faceBody_of_noSignal {new : Bool} {r : Region} {m : Mode} {l : LevelState} {p : PixelState} {x : ScanState}
    (hl : LevelFits l) (hp : PixelFits p) (hx : ScanFits r.height x) (ho : p.frameOpen = false)
    (hn : x.state = .noSignal) : FaceBody new r m l p x where
  level := hl
  pixel := hp
  scan := hx
  framed := by simp [ho, hn]
  counted _ h := by simp [ho] at h
  idle _ := hn

/-- The frame of a face that is not SCANNING is not OPEN. -/
theorem FaceBody.frameOpen_of_idle {new : Bool} {r : Region} {m : Mode} {l : LevelState} {p : PixelState}
    {x : ScanState} (h : FaceBody new r m l p x) (hi : (r.configured && m != .dark) = false) : p.frameOpen = false := by
  rw [← Bool.not_eq_true, h.framed, h.idle hi]
  decide

theorem FaceFits.setCauses {new : Bool} {r : Region} {x : FaceState} (h : FaceFits new r x) {c : CauseState}
    (hc : CausesFit r.configured c) : FaceFits new r { x with causes := c } := ⟨h.body, hc⟩

section
variable {s t : State} {n : Option (Fin 8)}

/-- What `Surround` speaks of. -/
def State.around (s : State) : Tables × Vector Region 8 × TimeOfDay × Nat × Light × TileLink :=
  (s.policy.active, s.regions, s.time.tod, s.time.phase, s.light, s.tiles)

theorem Surround.of_eq (h : Surround s) (ht : t.around = s.around) : Surround t := by
  obtain ⟨hactive, hregions, htod, hphase, hlight, htiles⟩ : _ ∧ _ ∧ _ ∧ _ ∧ _ ∧ _ := by
    simpa [State.around] using ht
  obtain ⟨hvalid, hregion, htime, hl, htl⟩ := h
  exact ⟨by rwa [hactive], by simpa only [State.RegionOk, hactive, hregions] using hregion,
    by rwa [State.TimeOk, htod, hphase], by rwa [State.LightOk, hlight],
    by simpa only [State.TilesOk, State.configured, hregions, htiles] using htl⟩

theorem Monitors.of_eq (h : Monitors n s) (ht : t.around = s.around) (hf : t.faces = s.faces) : Monitors n t := by
  refine ⟨h.surround.of_eq ht, ?_⟩
  have hregions : t.regions = s.regions := congrArg (fun a => a.2.1) ht
  rw [hregions, hf]
  exact h.face

/-- Another time, other channels or other tiles. -/
theorem Monitors.setSurround (h : Monitors n s) (ht : Surround t) (hr : t.regions = s.regions)
    (hf : t.faces = s.faces) : Monitors n t := ⟨ht, by rw [hr, hf]; exact h.face⟩

/-- One face changed: the mark of a new frame may be put on it or taken off it. -/
theorem Monitors.modFace (h : Monitors n s) {k : Option (Fin 8)} (f : Fin 8) {g : FaceState → FaceState}
    (hk : ∀ j, j ≠ f → (k = some j ↔ n = some j))
    (hg : FaceFits (decide (k = some f)) s.regions[f] (g s.faces[f])) : Monitors k (s.modFace f g) := by
  refine ⟨h.surround.of_eq rfl, fun j => ?_⟩
  by_cases hj : f.val = j.val
  · obtain rfl := Fin.ext hj
    simpa using hg
  · have hne : j ≠ f := fun he => hj (by rw [he])
    have hface := h.face j
    rw [← decide_eq_decide.mpr (hk j hne)] at hface
    simpa [hj] using hface

/-- One face changed, no mark moved. -/
theorem Monitors.modFace_same (h : Monitors n s) (f : Fin 8) {g : FaceState → FaceState}
    (hg : FaceFits (decide (n = some f)) s.regions[f] s.faces[f] →
      FaceFits (decide (n = some f)) s.regions[f] (g s.faces[f])) : Monitors n (s.modFace f g) :=
  h.modFace f (fun _ _ => Iff.rfl) (hg (h.face f))

theorem Monitors.mapFaces (h : Monitors n s) {g : Fin 8 → FaceState → FaceState}
    (hg : ∀ f : Fin 8, FaceFits (decide (n = some f)) s.regions[f] s.faces[f] →
      FaceFits (decide (n = some f)) s.regions[f] (g f s.faces[f])) : Monitors n (s.mapFaces g) := by
  refine ⟨h.surround.of_eq rfl, fun f => ?_⟩
  rw [State.mapFaces_faces, tabulate_get]
  exact hg f (h.face f)

/-! ### What the Constraint Block takes (10.4) -/

theorem Monitors.takeCompletion (h : Monitors n s) (f : Fin 8) : Monitors n (s.takeCompletion f) := by
  unfold State.takeCompletion
  split
  · rename_i hcfg
    refine h.modFace_same f fun hx => hx.setCauses ?_
    have hc := hx.causes
    rw [show s.regions[f].configured = true from hcfg] at hc ⊢
    exact hc.completed _
  · exact h

theorem Monitors.takeStallEnded (h : Monitors n s) (f : Fin 8) : Monitors n (s.takeStallEnded f) :=
  h.modFace_same f fun hx => hx.setCauses (hx.causes.ended _ _)

theorem Monitors.drain (h : Monitors n s) (ns : List Notice) : Monitors n (s.drain ns) := by
  induction ns generalizing s with
  | nil => exact h.of_eq rfl rfl
  | cons m ns ih =>
    cases m with
    | record r => exact h.of_eq rfl rfl
    | completion f => exact ih (h.takeCompletion f)
    | stallEnded f => exact ih (h.takeStallEnded f)

theorem Monitors.hand (h : Monitors n s) (ns : List Notice) : Monitors n (s.hand ns) := h.drain _

theorem Monitors.endStall (h : Monitors n s) (f : Fin 8) : Monitors n (s.endStall f) :=
  (h.takeStallEnded f).of_eq rfl rfl

/-- The causes of a face after a record (R149, R150). -/
theorem takeRecord_causes (s : State) (r : Record) (f : Fin 8) :
    (s.takeRecord r).faces[f].causes =
      if s.affected r f then
        s.faces[f].causes.take r.cls.val r.src r.event (s.policy.active.action r.cls) (s.policy.active.latch r.cls)
      else s.faces[f].causes := by
  unfold State.takeRecord
  simp only []
  split <;> (simp; split <;> rfl)

/-- A record strikes configured faces alone, and with a class that its action allows (R52, R149, R150). -/
theorem Monitors.takeRecord (h : Monitors n s) (r : Record) : Monitors n (s.takeRecord r) := by
  obtain ⟨base, hvalid⟩ := h.surround.valid
  have hregions : (s.takeRecord r).regions = s.regions := by rw [takeRecord_frame]
  refine ⟨h.surround.of_eq (by rw [takeRecord_frame]; rfl), fun f => ?_⟩
  rw [hregions, takeRecord_face, takeRecord_causes]
  split
  · rename_i haff
    have hcfg : s.regions[f].configured = true := (Bool.and_eq_true_iff.mp haff).1
    have hc := (h.face f).causes
    refine (h.face f).setCauses ?_
    rw [hcfg] at hc ⊢
    exact hc.take _ _ (action_faceClasses hvalid) _
  · exact h.face f

/-! ### Channels, tiles and time -/

theorem Surround.setLight (h : Surround s) {l : Light} (hs : l.shortFrames ≤ max16)
    (hl : ∀ ch : Fin 4, l.channels[ch].Ok) : Surround { s with light := l } :=
  ⟨h.valid, h.region, h.time, ⟨hs, hl⟩, h.tiles⟩

theorem Surround.setTiles (h : Surround s) {l : TileLink} (he : l.errors ≤ max16) (hd : l.discarded ≤ max16)
    (hl : ∀ f : Fin 8, ∀ i : Fin 32, l.entries[f][i].Ok ∧ (s.configured f = false → l.entries[f][i] = .reset)) :
    Surround { s with tiles := l } := ⟨h.valid, h.region, h.time, h.light, ⟨he, hd, hl⟩⟩

theorem Monitors.setChannel (h : Monitors n s) (ch : Fin 4) {c : Channel} (hc : c.Ok) :
    Monitors n (s.setChannel ch c) := by
  refine h.setSurround (h.surround.setLight h.surround.light.1 fun k => ?_) rfl rfl
  by_cases hk : ch.val = k.val
  · simpa [hk] using hc
  · simpa [hk] using h.surround.light.2 k

/-- An entry changed to one that fits, cleared where the face is not configured. -/
theorem Monitors.setTile (h : Monitors n s) (f : Fin 8) (i : Fin 32) {e : TileEntry} (he : e.Ok)
    (hc : s.configured f = false → e = .reset) : Monitors n (s.setTile f i e) := by
  obtain ⟨herr, hdisc, hentries⟩ := h.surround.tiles
  refine h.setSurround (h.surround.setTiles herr hdisc fun g j => ?_) rfl rfl
  by_cases hg : f.val = g.val
  · obtain rfl := Fin.ext hg
    by_cases hj : i.val = j.val
    · simpa [hj] using ⟨he, hc⟩
    · simpa [hj] using hentries f j
  · simpa [hg] using hentries g j

theorem Monitors.staleExpiry (h : Monitors n s) (ch : Fin 4) : Monitors n (s.staleExpiry ch) :=
  of_ite ((h.setChannel ch (h.surround.light.2 ch).stale).hand _) h

theorem Monitors.silentExpiry (h : Monitors n s) (f : Fin 8) (i : Fin 32) : Monitors n (s.silentExpiry f i) := by
  unfold State.silentExpiry
  split
  · rename_i hdue
    obtain ⟨hok, hcleared⟩ := h.surround.tiles.2.2 f i
    refine (h.setTile f i (hok.silence hdue) fun hc => ?_).hand _
    rw [hcleared hc] at hdue
    cases hdue
  · exact h

/-- An entry that has been heard and whose timer runs (R141). -/
theorem heardTile_ok (st : BitVec 4) (o t : Byte) (n : Nat) :
    TileEntry.Ok { heard := true, status := st, openCount := o, temp := t, silent := false, timer := .running n } :=
  ⟨fun hh => (nomatch hh), fun hs => (nomatch hs), fun _ _ => rfl⟩

theorem Monitors.goodTile (h : Monitors n s) {f : Fin 8} (hc : s.configured f = true) (i : Fin 32) (st : BitVec 4)
    (o t : Byte) : Monitors n (s.goodTile f i st o t) :=
  (h.setTile f i (heardTile_ok _ _ _ _) fun hf => by simp [hc] at hf).hand _

/-- Time-of-day and tick phase at a 1 ms event stay in range (R67, R69). -/
theorem timeOk_ms1 (h : s.TimeOk) : s.ms1.TimeOk := by
  obtain ⟨hminute, hms, hphase, hunset⟩ := h
  simp only [State.TimeOk, State.ms1, TimeBase.ms1, TimeOfDay.ms1]
  cases hset : s.time.tod.set with
  | false =>
    refine ⟨by simpa [hset] using hminute, by simpa [hset] using hms, by split <;> omega, fun _ => ?_⟩
    simpa [hset] using hunset hset
  | true =>
    simp only [Bool.not_true, Bool.false_eq_true, if_false]
    split
    · exact ⟨hminute, by simp only []; omega, by split <;> omega, fun h => (nomatch h)⟩
    · exact ⟨by simp only []; split <;> omega, by simp, by split <;> omega, fun h => (nomatch h)⟩

theorem Monitors.ms1 (h : Monitors n s) : Monitors n s.ms1 := by
  refine ⟨⟨h.surround.valid, h.surround.region, timeOk_ms1 h.surround.time, ⟨h.surround.light.1, fun ch => ?_⟩,
    ⟨h.surround.tiles.1, h.surround.tiles.2.1, fun f i => ?_⟩⟩, fun f => ?_⟩
  · have hch : s.ms1.light.channels[ch] = { s.light.channels[ch] with timer := s.light.channels[ch].timer.ms } :=
      tabulate_get _ ch
    rw [hch]
    exact (h.surround.light.2 ch).ms
  · have hentry : s.ms1.tiles.entries[f][i] =
        { s.tiles.entries[f][i] with timer := s.tiles.entries[f][i].timer.ms } := by
      simp [State.ms1, State.timersMs]
    obtain ⟨hok, hcleared⟩ := h.surround.tiles.2.2 f i
    rw [hentry]
    exact ⟨hok.ms, fun hc => by rw [hcleared hc]; rfl⟩
  · have hface : s.ms1.faces[f] =
        { s.faces[f] with scan := { s.faces[f].scan with timer := s.faces[f].scan.timer.ms } } := tabulate_get _ f
    rw [hface]
    obtain ⟨⟨hlevel, hpixel, hscan, hframed, hcounted, hidle⟩, hcauses⟩ := h.face f
    exact ⟨⟨hlevel, hpixel, hscan.ms, hframed, hcounted, hidle⟩, hcauses⟩

/-! ### The Level Engine (R87 to R100) -/

theorem Monitors.takeTick (h : Monitors n s) : Monitors n s.takeTick := by
  obtain ⟨base, hvalid⟩ := h.surround.valid
  refine of_ite (Monitors.of_eq (h.mapFaces fun f hx => ?_) rfl rfl) h
  split
  · obtain ⟨⟨hlevel, hpixel, hscan, hframed, hcounted, hidle⟩, hcauses⟩ := hx
    exact ⟨⟨hlevel.tick _ _ (faceLight_le h.surround.light f) (curveOf_le hvalid f) (curfewCap_le hvalid f)
      (targetOf_le hvalid f), hpixel, hscan, hframed, hcounted, hidle⟩, hcauses⟩
  · exact hx

/-! ### Modes (R44 to R46, R153) -/

theorem FaceFits.modeWrite {new : Bool} {r : Region} {x : FaceState} (h : FaceFits new r x) (m : Mode) (up : Bool) :
    FaceFits new r (x.modeWrite m up) := by
  obtain ⟨⟨hlevel, hpixel, hscan, hframed, hcounted, hidle⟩, hcauses⟩ := h
  unfold FaceState.modeWrite
  simp only []
  split
  · exact ⟨faceBody_of_noSignal (levelFits_enterDark _) hpixel.abandon hscan.toNoSignal rfl rfl, hcauses⟩
  · rename_i hno
    refine ⟨⟨hlevel.catchUp _, hpixel, hscan, hframed, hcounted, fun hi => hidle ?_⟩, hcauses⟩
    simp only [Bool.and_eq_true, decide_eq_true_eq, bne_iff_ne, not_and, not_not, Bool.and_eq_false_iff,
      bne_eq_false_iff_eq] at hno hi ⊢
    exact hi.imp_right hno

theorem FaceFits.restart {new : Bool} {r : Region} {x : FaceState} (h : FaceFits new r x) :
    FaceFits new r (x.restart r.configured) := by
  have hscan : ScanFits r.height x.scan.restart := scanFits_restart _ _
  cases hc : r.configured with
  | true =>
    exact ⟨faceBody_of_noSignal h.body.level h.body.pixel.restart hscan rfl rfl, causesFit_reset _⟩
  | false =>
    exact ⟨faceBody_of_noSignal h.body.level h.body.pixel hscan (h.body.frameOpen_of_idle (by simp [hc])) rfl,
      causesFit_reset _⟩

/-- The blocks of a restart stand at their reset values, which fit (R85, R146). -/
theorem reset_fits : Channel.reset.Ok ∧ TileEntry.reset.Ok := by decide

theorem Monitors.restart (h : Monitors n s) : Monitors n s.restart := by
  have hfaces : Monitors n (s.mapFaces fun f x => x.restart (s.configured f)) := h.mapFaces fun f hx => hx.restart
  have hlight := hfaces.surround.setLight (l := .reset) (Nat.zero_le _) fun ch => by
    rw [show Light.reset.channels[ch] = Channel.reset from tabulate_get _ ch]
    exact reset_fits.1
  have htiles := hlight.setTiles (l := .reset) (Nat.zero_le _) (Nat.zero_le _) fun f i => by
    have hentry : TileLink.reset.entries[f][i] = TileEntry.reset := by simp [TileLink.reset]
    rw [hentry]
    exact ⟨reset_fits.2, fun _ => rfl⟩
  exact hfaces.setSurround (htiles.of_eq rfl) rfl rfl

/-! ### The beats of a face (R111 to R117, R125 to R132) -/

theorem Monitors.liveWrite (h : Monitors n s) (f : Fin 8) (b : Buffer) : Monitors n (s.liveWrite f b) := by
  refine of_ite (h.modFace_same f fun hx => ?_) h
  obtain ⟨⟨hlevel, hpixel, hscan, hframed, hcounted, hidle⟩, hcauses⟩ := hx
  exact ⟨⟨hlevel, hpixel, hscan.liveWrite, hframed, hcounted, hidle⟩, hcauses⟩

/-- A pixel beat is counted into its frame, which then has its starting beat if it had none. -/
theorem Monitors.scalePixel (f : Fin 8) (z : Fin 16) (w : Word) (hn : ∀ j, j ≠ f → n ≠ some j) (h : Monitors n s) :
    Monitors none (s.scalePixel f z w) := by
  refine Monitors.of_eq (h.modFace f (k := none)
    (g := fun x => { x with pixel := x.pixel.countBeat w (s.pixelOut f z w) }) ?_ ?_) rfl rfl
  · exact fun j hj => ⟨fun he => (nomatch he), fun he => absurd he (hn j hj)⟩
  · obtain ⟨⟨hlevel, hpixel, hscan, hframed, -, hidle⟩, hcauses⟩ := h.face f
    obtain ⟨hfits, hopen, hcount⟩ := hpixel.countBeat w (s.pixelOut f z w)
    exact ⟨⟨hlevel, hfits, hscan, by simp only []; rw [hopen]; exact hframed,
      fun _ ho => hcount (hopen ▸ ho), hidle⟩, hcauses⟩

/-- A frame start of a monitored face opens its frame, whose starting beat is still to come. -/
theorem Monitors.frameStarted (h : Monitors none s) {f : Fin 8} (hm : s.monitored f = true) (b : Buffer) {l : Nat}
    (hl : l < s.regions[f].height) : Monitors (some f) ((s.startStallTimer f).frameStarted f b l) := by
  rw [State.frameStarted, State.startStallTimer, modFace_modFace]
  refine h.modFace f ?_ ?_
  · exact fun j hj => ⟨fun he => absurd (Option.some_inj.mp he).symm hj, fun he => (nomatch he)⟩
  · obtain ⟨⟨hlevel, hpixel, hscan, -, -, -⟩, hcauses⟩ := h.face f
    refine ⟨⟨hlevel, hpixel.frameStart _ _, hscan.started b hl _ _, ?_, fun hn => by simp at hn, fun hi => ?_⟩, hcauses⟩
    · exact ⟨fun _ => rfl, fun _ => frameStart_frameOpen _ _ _⟩
    · exact absurd (show s.monitored f = false from hi) (by simp [hm])

theorem Monitors.startBeat (h : Monitors none s) {f : Fin 8} (hm : s.monitored f = true) (b : Buffer) {l : Nat}
    (hl : l < s.regions[f].height) (z : Fin 16) (w : Word) :
    Monitors none ((s.startStallTimer f).startBeat f b l z w) := by
  have hs := h.frameStarted hm b hl
  have hf : ∀ j, j ≠ f → some f ≠ some j := fun j hj he => hj (Option.some_inj.mp he).symm
  have hafter (ns : List Notice) :
      Monitors none ((((s.startStallTimer f).frameStarted f b l).hand ns).scalePixel f z w) :=
    (hs.hand ns).scalePixel f z w hf
  have hbefore (ns : List Notice) :
      Monitors none ((((s.startStallTimer f).frameStarted f b l).scalePixel f z w).hand ns) :=
    (hs.scalePixel f z w hf).hand ns
  exact of_ite (hafter _) (Monitors.of_eq (of_ite (hafter _) (hbefore _)) rfl rfl)

/-- A beat that goes on with the frame of a SCANNING face (R126). -/
theorem Monitors.continued (h : Monitors none s) {f : Fin 8} (hs : s.faces[f].scan.state = .scanning) {l : Nat}
    (hl : l < s.regions[f].height) :
    Monitors none ((s.startStallTimer f).modFace f fun x => { x with scan := x.scan.continued l }) := by
  rw [State.startStallTimer, modFace_modFace]
  refine h.modFace_same f fun hx => ?_
  obtain ⟨⟨hlevel, hpixel, hscan, hframed, hcounted, hidle⟩, hcauses⟩ := hx
  have hstate : ∀ t : Timer, (({ s.faces[f].scan with timer := t } : ScanState).continued l).state =
      s.faces[f].scan.state := fun t => continued_state _ l
  exact ⟨⟨hlevel, hpixel, hscan.continued hs hl _, by simp only [Function.comp_apply, hstate]; exact hframed, hcounted,
    by simp only [Function.comp_apply, hstate]; exact hidle⟩, hcauses⟩

theorem Monitors.pixelRead (h : Monitors none s) {f : Fin 8} (b : Buffer) {l : Nat} (z : Fin 16) (w : Word)
    (hl : l < s.regions[f].height) : Monitors none (s.pixelRead f b l z w) := by
  have hnone : ∀ j, j ≠ f → (none : Option (Fin 8)) ≠ some j := fun _ _ he => nomatch he
  unfold State.pixelRead
  split
  · exact h.scalePixel f z w hnone
  · rename_i hm
    split
    · exact h.startBeat (by simpa using hm) b hl z w
    · rename_i hstart
      have hs : s.faces[f].scan.state = .scanning := by
        simp only [ScanState.isStart, Bool.or_eq_true, not_or, bne_iff_ne, ne_eq, not_not] at hstart
        exact hstart.1.1
      exact (h.continued hs hl).scalePixel f z w hnone

/-! ### The stall timers (R117, R130, R131) -/

/-- The timers of SCANNING faces set to another value. -/
theorem Monitors.setStallTimers (h : Monitors n s) (t : Timer) :
    Monitors n (s.mapFaces fun f x =>
      if s.monitored f && x.scan.state == .scanning then { x with scan := { x.scan with timer := t } } else x) := by
  refine h.mapFaces fun f hx => ?_
  split
  · rename_i hm
    simp only [Bool.and_eq_true, beq_iff_eq] at hm
    obtain ⟨⟨hlevel, hpixel, hscan, hframed, hcounted, hidle⟩, hcauses⟩ := hx
    exact ⟨⟨hlevel, hpixel, hscan.setTimer hm.2 t, hframed, hcounted, hidle⟩, hcauses⟩
  · exact hx

theorem Monitors.stallExpiry (h : Monitors n s) (f : Fin 8) : Monitors n (s.stallExpiry f) := by
  unfold State.stallExpiry
  split
  · rename_i hdue
    simp only [Bool.and_eq_true] at hdue
    refine Monitors.hand (h.modFace_same f fun hx => ?_) _
    obtain ⟨⟨hlevel, hpixel, hscan, -, -, -⟩, hcauses⟩ := hx
    refine ⟨⟨hlevel, hpixel.abandon, scanFits_of_stopped _ (by simp [FaceState.stall]) rfl hscan.live, ?_, ?_, ?_⟩,
      hcauses⟩
    · simp [FaceState.stall, PixelState.abandon]
    · exact fun _ ho => (nomatch ho)
    · exact fun hi => absurd (show s.monitored f = false from hi) (by simp [hdue.1.1])
  · exact h

/-! ### The switch (R59, R60) -/

theorem fallbackLevel_le (s : State) : s.fallbackLevel ≤ 4095 := by
  unfold State.fallbackLevel Config.fallbackLevel
  split_ifs <;> omega

/-- A face whose record stays, or stays not enabled, keeps its region (R27). -/
theorem regionOf_of_none {s : State} {f : Fin 8} (hr : s.RegionOk f)
    (hch : faceChange s.policy.active s.policy.switched.active f = .none) :
    regionOf (s.policy.switched.active.face f) s.regions[f] = s.regions[f] := by
  obtain ⟨hcfg, hgeo⟩ := hr
  cases ho : (s.policy.active.face f).enabled <;> cases hn : (s.policy.switched.active.face f).enabled
  · rw [regionOf, hn, if_neg (by decide)]
    simp only [← ho, ← hcfg]
  · rw [faceChange_configured ho hn] at hch
    cases hch
  · rw [faceChange_unconfigured ho hn] at hch
    cases hch
  · have hsame : s.policy.switched.active.face f = s.policy.active.face f := by
      by_contra hne
      rw [faceChange_changed_iff.mpr ⟨ho, hn, hne⟩] at hch
      cases hch
    rw [hsame, (regionOf_ok _ _).2 ho]
    exact (hgeo ho).symm

/-- Whether a face is configured before and after its announcement. -/
theorem configured_of_faceChange {s : State} {f : Fin 8} (hr : s.RegionOk f) :
    s.configured f = (s.policy.active.face f).enabled ∧
      (regionOf (s.policy.switched.active.face f) s.regions[f]).configured =
        (s.policy.switched.active.face f).enabled := ⟨hr.1, (regionOf_ok _ _).1⟩

/-- A face at its announcement fits its new region (R60, R101, R119, R134, R156). -/
theorem FaceFits.announce {new : Bool} {f : Fin 8} (hr : s.RegionOk f) (hx : FaceFits new s.regions[f] s.faces[f])
    (mask : BitVec 4) :
    FaceFits new (regionOf (s.policy.switched.active.face f) s.regions[f])
      (s.faces[f].announce (faceChange s.policy.active s.policy.switched.active f) s.fallbackLevel mask) := by
  have hfb := fallbackLevel_le s
  obtain ⟨hold, hnew⟩ := configured_of_faceChange hr
  cases hch : faceChange s.policy.active s.policy.switched.active f with
  | configured =>
    exact ⟨faceBody_of_noSignal (levelFits_configure hfb) (pixelFits_configure hfb) (scanFits_configure _) rfl rfl,
      causesFit_reset _⟩
  | unconfigured =>
    exact ⟨faceBody_of_noSignal (hx.body.level.catchUp _) hx.body.pixel.abandon hx.body.scan.toNoSignal rfl rfl,
      causesFit_reset _⟩
  | changed =>
    obtain ⟨ho, hn, -⟩ := faceChange_changed_iff.mp hch
    have hc := hx.causes
    rw [show s.regions[f].configured = true from hold.trans ho] at hc
    refine ⟨faceBody_of_noSignal hx.body.level hx.body.pixel.abandon hx.body.scan.toNoSignal rfl rfl, ?_⟩
    rw [hnew.trans hn]
    exact hc.dropChannels mask
  | none =>
    rw [regionOf_of_none hr hch]
    exact hx

theorem Monitors.switched (h : Monitors none s) (hc : s.commitFailure = none) : Monitors none s.switched := by
  rw [switched_eq]
  refine foldl_keeps (fun t f ht => of_ite (ht.endStall f) ht) _ (P := Monitors none) ?_
  obtain ⟨⟨-, hregion, htime, hlight, herr, hdisc, htiles⟩, hface⟩ := h
  have hreg : ∀ f : Fin 8, s.announced.regions[f] = regionOf (s.policy.switched.active.face f) s.regions[f] :=
    fun f => tabulate_get _ f
  refine ⟨⟨⟨_, hc⟩, fun f => ?_, htime, hlight, herr, hdisc, fun f i => ?_⟩, fun f => ?_⟩
  · unfold State.RegionOk
    rw [hreg]
    exact regionOf_ok _ _
  · rw [show s.announced.tiles.entries[f] =
        announceTiles (faceChange s.policy.active s.policy.switched.active f) s.tiles.entries[f] from tabulate_get _ f,
      State.configured, hreg]
    have hcleared : clearedTiles[i].Ok ∧ clearedTiles[i] = TileEntry.reset := by
      rw [clearedTiles, tabulate_get]
      exact ⟨reset_fits.2, rfl⟩
    obtain ⟨hold, hnew⟩ := configured_of_faceChange (hregion f)
    cases hch : faceChange s.policy.active s.policy.switched.active f with
    | configured => exact ⟨hcleared.1, fun _ => hcleared.2⟩
    | unconfigured => exact ⟨hcleared.1, fun _ => hcleared.2⟩
    | changed =>
      obtain ⟨-, hn, -⟩ := faceChange_changed_iff.mp hch
      rw [hnew, hn]
      exact ⟨(htiles f i).1, fun hf => (nomatch hf)⟩
    | none =>
      rw [regionOf_of_none (hregion f) hch]
      exact htiles f i
  · rw [hreg, show s.announced.faces[f] = s.faces[f].announce
        (faceChange s.policy.active s.policy.switched.active f) s.fallbackLevel
        (s.policy.switched.active.face f).sensorMask from tabulate_get _ f]
    exact (hface f).announce (hregion f) _

end

/-! ### The rule -/

theorem monitorsRule : EventRule (Monitors none) (Monitors none) where
  weaken h := h
  inert {s t} h hw := by
    obtain ⟨hactive, hregions, htime, hlight, hfaces, htiles, -⟩ : _ ∧ _ ∧ _ ∧ _ ∧ _ ∧ _ ∧ _ := by
      simpa [State.watched] using hw
    exact h.of_eq (by simp only [State.around, hactive, hregions, htime, hlight, htiles]) hfaces
  hand _ h := h.hand _
  endStall f h := h.endStall f
  restart h := h.restart
  restartAfter h := h.restart
  liveWrite f b h := h.liveWrite f b
  modeWritten f m up h := h.modFace_same f fun hx => hx.modeWrite m up
  releaseFace f h := h.modFace_same f fun hx => hx.setCauses hx.causes.released
  setTime hminute hms h :=
    h.setSurround ⟨h.surround.valid, h.surround.region, ⟨hminute, hms, h.surround.time.2.2.1, fun hs => (nomatch hs)⟩,
      h.surround.light, h.surround.tiles⟩ rfl rfl
  pixelRead b z w hl h := h.pixelRead b z w hl
  haltStallTimers h := h.setStallTimers .halted
  restartStallTimers h := h.setStallTimers _
  staleExpiry ch h := h.staleExpiry ch
  stallExpiry f h := h.stallExpiry f
  silentExpiry f i h := h.silentExpiry f i
  takeTick h := h.takeTick
  ms1 h := h.ms1
  goodFrame ch flag hc h := (h.setChannel ch ((h.surround.light.2 ch).good hc flag _ _)).hand _
  badSample ch h := (h.setChannel ch (h.surround.light.2 ch).badFrame).hand _
  shortFrame h := h.setSurround (h.surround.setLight (satInc_le h.surround.light.1) h.surround.light.2) rfl rfl
  goodTile i st o t hc h := h.goodTile hc i st o t
  linkError h :=
    h.setSurround (h.surround.setTiles (satInc_le h.surround.tiles.1) h.surround.tiles.2.1 h.surround.tiles.2.2) rfl rfl
  discardTile h :=
    h.setSurround (h.surround.setTiles h.surround.tiles.1 (satInc_le h.surround.tiles.2.1) h.surround.tiles.2.2) rfl rfl
  takeRecord {s r rest} _ h := (h.takeRecord r).of_eq rfl rfl
  switched hc h := h.switched hc

/-! ### Every step -/

/-- The active tables pass the checks of a commit, in reset too. -/
theorem PolicyOk.valid {s : State} (h : s.PolicyOk) : ∃ base, s.policy.active.validate base = none := by
  obtain ⟨hvalid, hnone, -⟩ := h
  cases hp : s.straps with
  | some p => exact ⟨_, hvalid p hp⟩
  | none =>
    rw [(hnone hp).2]
    exact ⟨0, defaultTables_validate 0⟩

/-- Held, every monitor stands at its reset value (R85, R106, R123, R136, R146, R156). -/
theorem held_monitors (p : Option Straps) (bus : BusOut) (n : Nat) (cs : List Instr) :
    Monitors none (State.held p bus n cs) := by
  obtain ⟨-, -, -, hpolicy, htime, hlight, htiles, hfaces, -⟩ := resetStateMeetsTheInvariants
  have hr : Monitors none State.reset :=
    ⟨⟨PolicyOk.valid hpolicy, hpolicy.2.2, htime, hlight, htiles⟩, (facesOk_iff _).mp hfaces⟩
  exact hr.of_eq rfl rfl

theorem exec_monitors {s t : State} {c : Instr} (h : Monitors none s) (he : exec c s = .next t) : Monitors none t := by
  cases hc : isReset c with
  | true =>
    cases c <;> simp only [isReset, Bool.false_eq_true] at hc
    case powerOnReset => cases he; exact held_monitors _ _ _ _
    case resetLine => cases he; exact held_monitors _ _ _ _
    case resetRelease p =>
      cases he
      exact of_ite ((held_monitors (some p) s.bus s.choices s.pending).of_eq rfl rfl) h
  | false =>
    obtain ⟨u, hu, hm⟩ := monitorsRule.exec hc h
    rw [hu] at he
    cases he
    exact hm

theorem clockCycle_monitors {s : State} (h : Monitors none s) : Monitors none s.clockCycle := by
  have hs := monitorsRule.settleTime h
  unfold State.clockCycle
  refine of_ite h ?_
  generalize s.settleTime = u at hs
  exact of_ite (hs.of_eq rfl rfl) hs.ms1

/-- Settles O59: `monitorsRule` over every command, and the 1 ms event and its time within an idle step. -/
theorem stepKeepsTheMonitors : Obligations.StepKeepsTheMonitors := by
  intro s t hpolicy htime hlight htiles hfaces he
  have hs : Monitors none s :=
    ⟨⟨PolicyOk.valid hpolicy, hpolicy.2.2, htime, hlight, htiles⟩, (facesOk_iff s).mp hfaces⟩
  have ht : Monitors none t := by
    unfold step at he
    split at he
    · cases he
      exact clockCycle_monitors hs
    · refine exec_monitors ?_ he
      exact hs.of_eq rfl rfl
  exact ⟨ht.surround.time, ht.surround.light, ht.surround.tiles, (facesOk_iff t).mpr ht.face⟩

end Sys2Proof.Machine
end

section
/-! SUPPORT. The statements about time: what it has made due, the 1 ms event, an idle step, the expiries and the curfew
cap (R64 to R67, R69, R71, R72, R82, R117, R130, R142). -/

namespace Sys2Proof.Machine

/-! ### What the settling of time leaves due (R66, R69) -/

/-- Where each operation of a list does its own part, and undoes that of no other, all of them are done at the end. -/
theorem foldl_all {α : Type} {op : State → α → State} {D : α → State → Prop} (hdo : ∀ s a, D a (op s a))
    (hkeep : ∀ a s b, D a s → D a (op s b)) (l : List α) (s : State) {a : α} (ha : a ∈ l) : D a (l.foldl op s) := by
  induction l generalizing s with
  | nil => simp at ha
  | cons b l ih =>
    by_cases hl : a ∈ l
    · exact ih _ hl
    · obtain rfl : a = b := (List.mem_cons.mp ha).resolve_right hl
      exact foldl_keeps (P := D a) (hkeep a) l (hdo s a)

/-- No expiry of a channel's stale timer is due. -/
def StaleTaken (ch : Fin 4) (s : State) : Prop := s.light.channels[ch].timer ≠ .running 0

/-- No expiry of a monitored SCANNING face's stall timer is due. -/
def StallTaken (f : Fin 8) (s : State) : Prop :=
  s.configured f = true → s.faces[f].mode ≠ .dark → s.faces[f].scan.state = .scanning →
    s.faces[f].scan.timer ≠ .running 0

/-- No expiry of a tile's silent timer is due. -/
def SilentTaken (f : Fin 8) (i : Fin 32) (s : State) : Prop := s.tiles.entries[f][i].timer ≠ .running 0

theorem StallTaken.of_eq {f : Fin 8} {s t : State} (h : StallTaken f s) (hr : t.regions = s.regions)
    (hm : t.faces[f].mode = s.faces[f].mode) (hx : t.faces[f].scan = s.faces[f].scan) : StallTaken f t := by
  unfold StallTaken at h ⊢
  rwa [State.configured, hr, hm, hx]

/-- The expiry of a stale timer, taken where it is due (R82). -/
theorem staleExpiry_channel (s : State) (ch k : Fin 4) :
    (s.staleExpiry ch).light.channels[k] =
      if k = ch ∧ s.light.channels[ch].timer.due = true then s.light.channels[ch].stale else s.light.channels[k] := by
  unfold State.staleExpiry
  by_cases hd : s.light.channels[ch].timer.due = true
  · rw [if_pos hd, State.handRecord, State.hand, drain_frame]
    by_cases hk : k = ch
    · subst hk
      rw [if_pos ⟨rfl, hd⟩]
      simp
    · rw [if_neg fun h => hk h.1]
      simp [Fin.val_ne_of_ne (Ne.symm hk)]
  · rw [if_neg hd, if_neg fun h => hd h.2]

theorem staleTaken_staleExpiry (s : State) (ch : Fin 4) : StaleTaken ch (s.staleExpiry ch) := by
  rw [StaleTaken, staleExpiry_channel]
  split
  · simp [Channel.stale]
  · rename_i hno
    exact fun he => hno ⟨rfl, (Timer.due_iff _).mpr he⟩

theorem StaleTaken.staleExpiry {k : Fin 4} {s : State} (h : StaleTaken k s) (ch : Fin 4) :
    StaleTaken k (s.staleExpiry ch) := by
  rw [StaleTaken, staleExpiry_channel]
  split
  · simp [Channel.stale]
  · exact h

/-- A face after a record is handed over: its causes alone may differ. -/
theorem handRecord_face (s : State) (r : Record) (g : Fin 8) :
    ∃ c, (s.handRecord r).faces[g] = { s.faces[g] with causes := c } := ⟨_, drain_face _ _ g⟩

/-- A face after the expiry of a stall timer: stalled where it was due, and its causes may differ (R130). -/
theorem stallExpiry_face (s : State) (f g : Fin 8) :
    ∃ c, (s.stallExpiry f).faces[g] =
      if g = f ∧ (s.monitored f && s.faces[f].scan.timer.due && s.faces[f].scan.state == .scanning) = true then
        { s.faces[f].stall with causes := c }
      else { s.faces[g] with causes := c } := by
  unfold State.stallExpiry
  by_cases hd : (s.monitored f && s.faces[f].scan.timer.due && s.faces[f].scan.state == .scanning) = true
  · rw [if_pos hd]
    obtain ⟨c, hc⟩ := handRecord_face (s.modFace f FaceState.stall) (s.mkRecord .face f.val clsScanStall .onset 0) g
    refine ⟨c, hc.trans ?_⟩
    by_cases hg : g = f
    · subst hg
      rw [if_pos ⟨rfl, hd⟩]
      simp
    · rw [if_neg fun h => hg h.1]
      simp [Fin.val_ne_of_ne (Ne.symm hg)]
  · rw [if_neg hd]
    exact ⟨s.faces[g].causes, by rw [if_neg fun h => hd h.2]⟩

theorem stallTaken_stallExpiry (s : State) (f : Fin 8) : StallTaken f (s.stallExpiry f) := by
  obtain ⟨c, hface⟩ := stallExpiry_face s f f
  have hcfg : (s.stallExpiry f).configured f = s.configured f := by rw [stallExpiry_frame]; rfl
  unfold StallTaken
  rw [hface, hcfg]
  split
  · exact fun _ _ hs => (nomatch hs)
  · rename_i hno
    intro hc (hm : s.faces[f].mode ≠ .dark) (hs : s.faces[f].scan.state = .scanning)
      (ht : s.faces[f].scan.timer = .running 0)
    refine hno ⟨rfl, ?_⟩
    rw [State.monitored, hc, hs, (Timer.due_iff _).mpr ht]
    simpa using hm

theorem StallTaken.stallExpiry {g : Fin 8} {s : State} (h : StallTaken g s) (f : Fin 8) :
    StallTaken g (s.stallExpiry f) := by
  by_cases hg : g = f
  · rw [hg]
    exact stallTaken_stallExpiry s f
  · obtain ⟨c, hface⟩ := stallExpiry_face s f g
    rw [if_neg fun h => hg h.1] at hface
    exact h.of_eq (by rw [stallExpiry_frame]) (by rw [hface]) (by rw [hface])

/-- The expiry of a silent timer, taken where it is due (R142). -/
theorem silentExpiry_entry (s : State) (f g : Fin 8) (i j : Fin 32) :
    (s.silentExpiry f i).tiles.entries[g][j] =
      if (g = f ∧ j = i) ∧ s.tiles.entries[f][i].timer.due = true then
        { s.tiles.entries[f][i] with silent := true, timer := .stopped }
      else s.tiles.entries[g][j] := by
  unfold State.silentExpiry
  by_cases hd : s.tiles.entries[f][i].timer.due = true
  · rw [if_pos hd, State.handRecord, State.hand, drain_frame]
    by_cases hg : g = f
    · subst hg
      by_cases hj : j = i
      · subst hj
        rw [if_pos ⟨⟨rfl, rfl⟩, hd⟩]
        simp
      · rw [if_neg fun h => hj h.1.2]
        simp [Fin.val_ne_of_ne (Ne.symm hj)]
    · rw [if_neg fun h => hg h.1.1]
      simp [Fin.val_ne_of_ne (Ne.symm hg)]
  · rw [if_neg hd, if_neg fun h => hd h.2]

theorem silentTaken_silentExpiry (s : State) (f : Fin 8) (i : Fin 32) : SilentTaken f i (s.silentExpiry f i) := by
  rw [SilentTaken, silentExpiry_entry]
  split
  · exact fun he => (nomatch he)
  · rename_i hno
    exact fun he => hno ⟨⟨rfl, rfl⟩, (Timer.due_iff _).mpr he⟩

theorem SilentTaken.silentExpiry {g : Fin 8} {j : Fin 32} {s : State} (h : SilentTaken g j s) (f : Fin 8)
    (i : Fin 32) : SilentTaken g j (s.silentExpiry f i) := by
  rw [SilentTaken, silentExpiry_entry]
  split
  · exact fun he => (nomatch he)
  · exact h

/-- A face after the expiry of a silent timer: its causes alone may differ. -/
theorem silentExpiry_face (s : State) (f g : Fin 8) (i : Fin 32) :
    (s.silentExpiry f i).faces[g] = { s.faces[g] with causes := (s.silentExpiry f i).faces[g].causes } := by
  unfold State.silentExpiry
  split
  · exact drain_face _ _ g
  · rfl

theorem StallTaken.silentExpiry {g : Fin 8} {s : State} (h : StallTaken g s) (f : Fin 8) (i : Fin 32) :
    StallTaken g (s.silentExpiry f i) :=
  h.of_eq (by rw [silentExpiry_frame]) (by rw [silentExpiry_face]) (by rw [silentExpiry_face])

/-- The expiries of all the tiles of a face, in the order of their numbers. -/
def State.silentExpiries (s : State) (f : Fin 8) : State := (List.finRange 32).foldl (fun s i => s.silentExpiry f i) s

theorem takeExpiries_eq (s : State) :
    s.takeExpiries = (List.finRange 8).foldl State.silentExpiries
      ((List.finRange 8).foldl State.stallExpiry ((List.finRange 4).foldl State.staleExpiry s)) := rfl

/-- What each expiry of a tile keeps, the expiries of a face keep. -/
theorem silentExpiries_keep {P : State → Prop} (h : ∀ s f i, P s → P (s.silentExpiry f i)) {s : State} (f : Fin 8)
    (hs : P s) : P (s.silentExpiries f) := foldl_keeps (fun s i hs => h s f i hs) _ hs

theorem silentTaken_silentExpiries (s : State) (f : Fin 8) (i : Fin 32) : SilentTaken f i (s.silentExpiries f) :=
  foldl_all (D := SilentTaken f) (fun s i => silentTaken_silentExpiry s f i) (fun _ _ j h => h.silentExpiry f j) _ s
    (List.mem_finRange i)

/-- After the expiries, none is due. -/
theorem takeExpiries_taken (s : State) :
    (∀ ch, StaleTaken ch s.takeExpiries) ∧ (∀ f, StallTaken f s.takeExpiries) ∧
      ∀ f i, SilentTaken f i s.takeExpiries := by
  rw [takeExpiries_eq]
  refine ⟨fun ch => ?_, fun f => ?_, fun f i => ?_⟩
  · have hstale := foldl_all (D := StaleTaken) staleTaken_staleExpiry (fun _ _ k h => h.staleExpiry k)
      (List.finRange 4) s (List.mem_finRange ch)
    have hstall := foldl_keeps (P := StaleTaken ch) (op := State.stallExpiry)
      (fun s f h => by rw [StaleTaken, stallExpiry_frame]; exact h) (List.finRange 8) hstale
    exact foldl_keeps (P := StaleTaken ch) (fun s f h => silentExpiries_keep
      (fun s f i h => by rw [StaleTaken, silentExpiry_frame]; exact h) f h) _ hstall
  · exact foldl_keeps (P := StallTaken f) (fun s g h => silentExpiries_keep (fun _ g i h => h.silentExpiry g i) g h) _
      (foldl_all (D := StallTaken) stallTaken_stallExpiry (fun _ _ g h => h.stallExpiry g) _ _ (List.mem_finRange f))
  · exact foldl_all (D := fun g t => ∀ j, SilentTaken g j t) (op := State.silentExpiries) silentTaken_silentExpiries
      (fun g s k h j => silentExpiries_keep (fun _ k i h => h.silentExpiry k i) k (h j)) _ _ (List.mem_finRange f) i

theorem takeTick_time (s : State) : s.takeTick.time = { s.time with tickRaised := false } := by
  unfold State.takeTick
  split
  · rfl
  · rename_i hno
    rw [Bool.not_eq_true] at hno
    rw [← hno]

/-- A tick leaves all but faces and time, and of a face all but its level. -/
theorem takeTick_frame (s : State) : s.takeTick = { s with time := s.takeTick.time, faces := s.takeTick.faces } := by
  unfold State.takeTick
  split <;> rfl

theorem takeTick_face (s : State) (f : Fin 8) :
    s.takeTick.faces[f] = { s.faces[f] with level := s.takeTick.faces[f].level } := by
  unfold State.takeTick
  split
  · simp only [State.levelTick, State.mapFaces_faces, tabulate_get]
    split <;> rfl
  · rfl

/-- Where no expiry is due, a tick leaves nothing due. -/
theorem takeTick_nothingDue {s : State} (hstale : ∀ ch, StaleTaken ch s) (hstall : ∀ f, StallTaken f s)
    (hsilent : ∀ f i, SilentTaken f i s) : s.takeTick.NothingDue := by
  refine ⟨fun ch => ?_, fun f => ?_, fun f i => ?_, by rw [takeTick_time]⟩
  · rw [takeTick_frame]
    exact hstale ch
  · exact (hstall f).of_eq (by rw [takeTick_frame]) (by rw [takeTick_face]) (by rw [takeTick_face])
  · rw [takeTick_frame]
    exact hsilent f i

/-- The settling of time leaves nothing due. -/
theorem settleTime_nothingDue (s : State) : s.settleTime.NothingDue := by
  obtain ⟨hstale, hstall, hsilent⟩ := takeExpiries_taken s
  rw [State.settleTime]
  exact takeTick_nothingDue hstale hstall hsilent

/-- The settling of time takes the raised tick, and moves no time. -/
theorem settleTime_time (s : State) : s.settleTime.time = { s.time with tickRaised := false } := by
  rw [State.settleTime, takeTick_time, takeExpiries_time]

@[simp] theorem settleTime_inReset (s : State) : s.settleTime.inReset = s.inReset :=
  (settings_eq_iff.mp (settleTime_keeps s).settings).1

@[simp] theorem settleTime_straps (s : State) : s.settleTime.straps = s.straps :=
  (settings_eq_iff.mp (settleTime_keeps s).settings).2.1

@[simp] theorem settleTime_settleTime (s : State) : s.settleTime.settleTime = s.settleTime :=
  settleTime_of_nothingDue (settleTime_nothingDue s)

@[simp] theorem settleTime_pending (s : State) : s.settleTime.pending = s.pending := by
  have hexp : s.takeExpiries.pending = s.pending := by
    rw [takeExpiries_eq]
    refine foldl_keeps (P := fun t => t.pending = s.pending) (fun t f ht => silentExpiries_keep
      (P := fun t => t.pending = s.pending) (fun t f i ht => ?_) f ht) _
      (foldl_keeps (P := fun t => t.pending = s.pending) (fun t f ht => ?_) _
        (foldl_keeps (P := fun t => t.pending = s.pending) (fun t ch ht => ?_) _ rfl))
    · rw [silentExpiry_frame]; exact ht
    · rw [stallExpiry_frame]; exact ht
    · rw [staleExpiry_frame]; exact ht
  have htick : ∀ u : State, u.takeTick.pending = u.pending := fun u => by rw [takeTick_frame]
  exact (htick _).trans hexp

/-! ### The 1 ms event and an idle step (R64 to R67, R69) -/

theorem exec_oneMsEvent {s : State} (h : s.inReset = false) : exec .oneMsEvent s = .next s.settleTime.ms1 := by
  simp only [exec, execOneMsEvent, h, Bool.false_eq_true, if_false]

/-- Time-of-day and tick phase at a 1 ms event, in arithmetic. -/
theorem timeBase_ms1 {s : State} (h : s.TimeOk) :
    s.time.ms1 = {
      prescaler := 0
      stamp := s.time.stamp + 1
      tod := if s.time.tod.set then
          { set := true, ms := (s.time.tod.ms + 1) % 60000
            minute := (s.time.tod.minute + (s.time.tod.ms + 1) / 60000) % 10080 }
        else s.time.tod
      phase := (s.time.phase + 1) % 100
      tickRaised := s.time.tickRaised || s.time.phase == 99 } := by
  obtain ⟨hminute, hms, hphase, -⟩ := h
  have htod : s.time.tod.ms1 = if s.time.tod.set then
      { set := true, ms := (s.time.tod.ms + 1) % 60000
        minute := (s.time.tod.minute + (s.time.tod.ms + 1) / 60000) % 10080 }
      else s.time.tod := by
    unfold TimeOfDay.ms1
    cases hs : s.time.tod.set with
    | false => rfl
    | true =>
      rw [if_neg (by decide), if_pos rfl]
      split
      · simp only [TimeOfDay.mk.injEq, true_and]
        omega
      · simp only [TimeOfDay.mk.injEq, true_and]
        split <;> omega
  have hnext : (if s.time.phase + 1 < 100 then s.time.phase + 1 else 0) = (s.time.phase + 1) % 100 := by
    split <;> omega
  have hraise : (!decide (s.time.phase + 1 < 100)) = (s.time.phase == 99) := by
    rw [Bool.eq_iff_iff]
    simp only [Bool.not_eq_true', decide_eq_false_iff_not, beq_iff_eq]
    omega
  rw [TimeBase.ms1, htod, hnext, hraise]

/-- Settles O40: the commands of time settle what is due (`afterAll_timeCommands`), and the event then counts for each
timer. -/
theorem oneMillisecondEvent : Obligations.OneMillisecondEvent := by
  intro s hr
  have hsettle := afterAll_timeCommands s hr
  have hr' : s.settleTime.inReset = false := by simp [hr]
  rw [hsettle, exec_oneMsEvent hr, exec_oneMsEvent hr', settleTime_settleTime]
  refine ⟨fun htime hdue => ⟨_, rfl, ?_⟩, rfl, settleTime_nothingDue s, hr', settleTime_time s,
    settleTime_of_nothingDue⟩
  rw [settleTime_of_nothingDue hdue]
  obtain ⟨-, -, -, htick⟩ := hdue
  refine ⟨?_, fun ch => tabulate_get _ ch, fun f => tabulate_get _ f, fun f i => ?_, rfl, fun _ => rfl, rfl, rfl, rfl⟩
  · rw [show s.ms1.time = s.time.ms1 from rfl, timeBase_ms1 htime, htick, Bool.false_or]
  · simp [State.ms1, State.timersMs]

/-- A cycle of the reference clock out of reset (R64). -/
theorem clockCycle_eq {s : State} (h : s.inReset = false) :
    s.clockCycle =
      if s.time.prescaler + 1 < Config.divisor s.strapImage then
        { s.settleTime with time := { s.settleTime.time with prescaler := s.time.prescaler + 1 } }
      else s.settleTime.ms1 := by
  have himg : s.settleTime.strapImage = s.strapImage := by simp only [State.strapImage, settleTime_straps]
  have hpre : s.settleTime.time.prescaler = s.time.prescaler := by rw [settleTime_time]
  rw [State.clockCycle, if_neg (by simp [h])]
  simp only [himg, hpre]

theorem step_of_idle {s : State} (h : s.pending = []) : step s = .next s.clockCycle := by rw [step, h]

/-- Settles O2: an idle step is a cycle of the reference clock, which settles what is due and then counts. -/
theorem idleStepIsOneReferenceClockCycle : Obligations.IdleStepIsOneReferenceClockCycle := by
  intro s hp
  rw [step_of_idle hp]
  refine ⟨fun hr => congrArg _ (if_pos hr), fun hr hdue hlt => congrArg _ ?_, fun hr hle => ?_, fun hr => ?_⟩
  · rw [clockCycle_eq hr, settleTime_of_nothingDue hdue]
    exact if_pos hlt
  · rw [clockCycle_eq hr, exec_oneMsEvent hr]
    exact congrArg _ (if_neg (not_lt.mpr hle))
  · have hr' : s.settleTime.inReset = false := by simp [hr]
    have hp' : s.settleTime.pending = [] := by simp [hp]
    have hpre : s.settleTime.time.prescaler = s.time.prescaler := by rw [settleTime_time]
    have himg : s.settleTime.strapImage = s.strapImage := by simp only [State.strapImage, settleTime_straps]
    rw [afterAll_timeCommands s hr]
    refine ⟨?_, hp', hpre⟩
    rw [step_of_idle hp', clockCycle_eq hr, clockCycle_eq hr', hpre, himg, settleTime_settleTime]

/-! ### The expiries (R82, R117, R130, R142) -/

theorem staleExpiry_of_not_due {s : State} {ch : Fin 4} (h : s.light.channels[ch].timer ≠ .running 0) :
    s.staleExpiry ch = s := if_neg (mt (Timer.due_iff _).mp h)

theorem stallExpiry_of_not_due {s : State} {f : Fin 8} (h : s.faces[f].scan.timer ≠ .running 0) :
    s.stallExpiry f = s := by
  refine if_neg fun hd => h ((Timer.due_iff _).mp ?_)
  simp only [Bool.and_eq_true] at hd
  exact hd.1.2

theorem silentExpiry_of_not_due {s : State} {f : Fin 8} {i : Fin 32}
    (h : s.tiles.entries[f][i].timer ≠ .running 0) : s.silentExpiry f i = s := if_neg (mt (Timer.due_iff _).mp h)

/-- A stall timer that is due stalls its face, and the record waits (R117, R130). -/
theorem stallExpiry_of_due {s : State} (hin : s.InboxOk) {f : Fin 8} (ht : s.faces[f].scan.timer = .running 0)
    (hs : s.faces[f].scan.state = .scanning) (hm : s.monitored f = true) :
    s.stallExpiry f =
      { s.modFace f FaceState.stall with
        inbox := s.inbox ++ [.record (s.mkRecord .face f.val clsScanStall .onset 0)] } := by
  refine (if_pos ?_).trans (handRecord_eq (s.modFace f FaceState.stall) _ hin)
  rw [hm, hs, (Timer.due_iff _).mpr ht]
  rfl

/-- Settles O46: each expiry acts where its timer is due, and hands its record over to what waits. -/
theorem timerExpiries : Obligations.TimerExpiries := by
  intro s ch f i hr hin c y e
  have hrun {a b : State} : (if s.inReset then a else b) = b := if_neg (by simp [hr])
  refine ⟨fun ht => congrArg _ (hrun.trans ?_), fun ht hs hc hm => congrArg _ (hrun.trans ?_),
    fun ht => congrArg _ (hrun.trans ?_), fun ht => congrArg _ (hrun.trans (staleExpiry_of_not_due ht)),
    fun ht => congrArg _ (hrun.trans (stallExpiry_of_not_due ht)),
    fun ht => congrArg _ (hrun.trans (silentExpiry_of_not_due ht))⟩
  · exact (if_pos ((Timer.due_iff _).mpr ht)).trans (handRecord_eq (s.setChannel ch c.stale) _ hin)
  · refine stallExpiry_of_due hin ht hs ?_
    rw [State.monitored, hc]
    exact bne_iff_ne.mpr hm
  · exact (if_pos ((Timer.due_iff _).mpr ht)).trans
      (handRecord_eq (s.setTile f i { e with silent := true, timer := .stopped }) _ hin)

/-! ### The curfew cap (R71, R72) -/

/-- The entry after which none starts is the greatest, where no two start together. -/
theorem greatestStart_eq_some {es : List SchedEntry} {e : SchedEntry} (hn : (es.map (·.start)).Nodup) (he : e ∈ es)
    (hle : ∀ g ∈ es, g.start ≤ e.start) : greatestStart es = some e := by
  cases hg : greatestStart es with
  | none => simp [greatestStart_eq_none.mp hg] at he
  | some g =>
    obtain ⟨hmem, hmax⟩ := greatestStart_spec hg
    exact congrArg some (List.inj_on_of_nodup_map hn hmem he (le_antisymm (hle g hmem) (hmax e he)))

/-- Settles O43: the greatest start at or before the minute, or the greatest of all where there is none. -/
theorem curfewCap : Obligations.CurfewCap := by
  intro s f e es m
  have hcap : s.curfewCap f = if s.time.tod.set then capAt es m else s.policy.active.unsetCap := rfl
  rw [hcap]
  refine ⟨fun hs => if_neg (by simp [hs]), fun hs he => ?_, fun hs hn he hle hmax => ?_,
    fun hs hn he hlt hmax => ?_⟩ <;> rw [if_pos hs]
  · rw [he]
    rfl
  · have hg : greatestStart (es.filter fun g => g.start ≤ m) = some e := by
      refine greatestStart_eq_some (hn.sublist (List.filter_sublist.map _))
        (List.mem_filter.mpr ⟨he, by simpa using hle⟩) fun g hg => ?_
      obtain ⟨hmem, hgm⟩ := List.mem_filter.mp hg
      exact hmax g hmem (by simpa using hgm)
    simp only [capAt, hg]
  · have hnone : es.filter (fun g => g.start ≤ m) = [] :=
      List.filter_eq_nil_iff.mpr fun g hg => by simpa using hlt g hg
    simp only [capAt, hnone, greatestStart, greatestStart_eq_some hn he hmax]

end Sys2Proof.Machine
end

section
/-! SUPPORT. The statement about the header and stamp word reads, the lock, and the words of a slot (R65, R163, R164,
R170, 12.6). -/

namespace Sys2Proof.Machine

/-! ### Report offsets of the slots (R165) -/

/-- The words of the slots lie beyond the chain of items (R165). -/
theorem reportRead_slot (s : State) (k : Fin 32) {j : Nat} (hj : j < 8) :
    s.reportRead (1032 + 8 * k.val + j) = s.report.slots[k].word j := by
  have hn := configuredFaces_length s
  simp only [State.reportRead, slotWord_slot k hj]
  rw [if_neg (by omega), if_neg (by omega), if_neg (by omega), if_neg (by omega)]

theorem reportRead_stamp (s : State) : s.reportRead 1 = s.time.stamp := reportRead_header s (by decide)

/-! ### The lock (R163) -/

theorem readLock_header (p : Report) (k : Fin 32) :
    p.readLock (1032 + 8 * k.val) =
      { p with lock := if p.slots[k].code = .full ∨ p.slots[k].code = .overrun then some k else none } := by
  have hslot : slotWord (1032 + 8 * k.val) = some (k, 0) := slotWord_slot k (j := 0) (by decide)
  have hholds : p.slots[k].code.holds = true ↔ p.slots[k].code = .full ∨ p.slots[k].code = .overrun := by
    cases p.slots[k].code <;> simp [SlotCode.holds]
  simp only [Report.readLock, hslot, hholds]
  exact if_neg (by omega)

theorem readLock_stamp (p : Report) : p.readLock 1 = { p with lock := none } := rfl

/-- A read beat of the report page at a position: the word is delivered, and the lock does what R163 says. -/
theorem reportReadBeat_of_takesBus {s : State} (h : s.takesBus = true) (off : Nat) :
    s.reportReadBeat off =
      { s with
        report := s.report.readLock off, bus := { s.bus with toController := some (s.reportRead off) } } := if_pos h

/-! ### The words of a slot (R164, 12.6) -/

theorem slotCode_lt (c : SlotCode) : c.code < 2 ^ 3 := by cases c <;> decide

theorem eventCode_lt (e : EventKind) : e.code < 2 ^ 2 := by cases e <;> decide

theorem slot_headerWord {x : Slot} (h : x.Ok) :
    x.word 0 = BitVec.ofNat 32 (x.code.code + (if x.code = .overrun then x.overwrites else 0) * 256) := by
  obtain ⟨-, hover, hle, -⟩ := h
  have hcount : (if x.code = .overrun then x.overwrites else 0) = x.overwrites := by
    split
    · rfl
    · rename_i hno
      by_contra hne
      exact hno (hover (Ne.symm hne))
  rw [hcount]
  exact ((FitsWord.put (slotCode_lt x.code)).or (lo := 8) (n := 8) (by decide) (by omega)).eq

theorem slot_filterWord (x : Slot) :
    x.filterWord = BitVec.ofNat 32 (x.filterKey.toNat + x.filterMask.toNat * 65536) :=
  ((FitsWord.put x.filterKey.isLt).or (le_refl 16) x.filterMask.isLt).eq

/-- A slot without a record shows none (R164). -/
theorem slot_word_of_no_record {x : Slot} (h : x.code.holds = false) {w : Nat} (hw : 2 ≤ w) : x.word w = 0#32 := by
  obtain ⟨j, rfl⟩ := Nat.exists_eq_add_of_le' hw
  simp [Slot.word, h]

/-- A slot that holds a record shows it (R164). -/
theorem slot_word_of_record {x : Slot} {r : Record} (h : x.code.holds = true) (hr : x.record = some r) {w : Nat}
    (hw : 2 ≤ w) : x.word w = r.word w := by
  obtain ⟨j, rfl⟩ := Nat.exists_eq_add_of_le' hw
  simp [Slot.word, h, hr]

theorem record_word_of_reserved (r : Record) {w : Nat} (hw : 5 ≤ w) : r.word w = 0#32 := by
  obtain ⟨j, rfl⟩ := Nat.exists_eq_add_of_le' hw
  rfl

/-- The last three words of a slot are reserved (R170). -/
theorem slot_word_of_reserved (x : Slot) {w : Nat} (hw : 5 ≤ w) : x.word w = 0#32 := by
  cases hc : x.code.holds with
  | false => exact slot_word_of_no_record hc (by omega)
  | true =>
    cases hr : x.record with
    | some r => rw [slot_word_of_record hc hr (by omega), record_word_of_reserved r hw]
    | none =>
      obtain ⟨j, rfl⟩ := Nat.exists_eq_add_of_le' hw
      simp [Slot.word, hr]

theorem record_keyWord (r : Record) : r.word 2 = BitVec.ofNat 32 (r.key.toNat + r.event.code * 65536) :=
  ((FitsWord.put r.key.isLt).or (le_refl 16) (eventCode_lt r.event)).eq

theorem record_valueWord (r : Record) : r.word 3 = BitVec.ofNat 32 (r.value.toNat + r.minute.toNat * 65536) :=
  ((FitsWord.put r.value.isLt).or (le_refl 16) r.minute.isLt).eq

/-- Settles O55: the two reads by their offsets, and the words of a slot by its code. -/
theorem lockReadsAndSlotWords : Obligations.LockReadsAndSlotWords := by
  intro s k w
  have hread (off : Nat) {t : State} (h : s.reportReadBeat off = t) :
      (Host.Outcome.next (s.reportReadBeat off) : Host.Outcome State Fault Refusal) = .next t := congrArg _ h
  refine ⟨fun ht => ⟨hread (1032 + 8 * k.val) ?_, hread 1 ?_⟩, fun hok => ?_⟩
  · rw [reportReadBeat_of_takesBus ht, readLock_header]
  · rw [reportReadBeat_of_takesBus ht, readLock_stamp, reportRead_stamp]
  · intro x word code event
    have hword {j : Nat} (hj : j < 8) : word j = x.word j := reportRead_slot s k hj
    have hcode : code = x.code.code := by
      simp only [code]
      cases x.code <;> rfl
    have hevent (r : Record) : event r = r.event.code := by
      simp only [event]
      cases r.event <;> rfl
    refine ⟨?_, ?_, fun hc h2 h8 => ?_, fun h5 h8 => ?_, fun hc => ?_⟩
    · rw [hword (by decide), hcode]
      exact slot_headerWord hok
    · rw [hword (by decide), ← slot_filterWord]
      rfl
    · rw [hword h8]
      exact slot_word_of_no_record (by rcases hc with hc | hc | hc <;> rw [hc] <;> rfl) h2
    · rw [hword h8]
      exact slot_word_of_reserved x h5
    · have hholds : x.code.holds = true := by rcases hc with hc | hc <;> rw [hc] <;> rfl
      obtain ⟨r, hr⟩ := Option.isSome_iff_exists.mp (hok.1.trans hholds)
      have hshown {j : Nat} (h2 : 2 ≤ j) (h8 : j < 8) : word j = r.word j :=
        (hword h8).trans (slot_word_of_record hholds hr h2)
      refine ⟨r, hr, ?_, ?_, hshown (by decide) (by decide)⟩
      · rw [hshown (by decide) (by decide), hevent, record_keyWord]
      · rw [hshown (by decide) (by decide), record_valueWord]

end Sys2Proof.Machine
end

section
/-! SUPPORT. The statements about the ambient light channels: what waits after a sample frame, the sorted window and the
light of a face (R75 to R81, R83, R84). -/

namespace Sys2Proof.Machine

/-! ### Records handed over together (R147) -/

/-- Notices that are records wait behind what waits. -/
theorem hand_of_isRecord {s : State} (h : s.InboxOk) {ns : List Notice} (hn : ∀ n ∈ ns, n.isRecord = true) :
    s.hand ns = { s with inbox := s.inbox ++ ns } := by
  refine drain_of_record_first _ _ fun n hm => ?_
  rw [List.head?_append] at hm
  rcases Option.or_eq_some_iff.mp hm with hm | ⟨-, hm⟩
  · exact h n hm
  · exact hn n (List.mem_of_mem_head? hm)

theorem isRecord_of_mem_ite {c : Prop} [Decidable c] {r : Record} :
    ∀ n ∈ (if c then [Notice.record r] else []), n.isRecord = true := by
  intro n hn
  split at hn
  · rw [List.mem_singleton.mp hn]
    rfl
  · cases hn

theorem goodRecords_isRecord (s : State) (ch : Fin 4) (code : Nat) (flag : Bool) :
    ∀ n ∈ s.goodRecords ch code flag, n.isRecord = true :=
  List.forall_mem_append.mpr
    ⟨List.forall_mem_append.mpr ⟨isRecord_of_mem_ite, isRecord_of_mem_ite⟩, isRecord_of_mem_ite⟩

/-! ### Sample frames (R75 to R81, R83) -/

/-- The light code by its nibbles, one after the other (12.7). -/
theorem sampleCode_eq (n1 n2 n3 n4 : Nibble) :
    sampleCode n1 n2 n3 n4 = ((n1.toNat * 16 + n2.toNat) * 16 + n3.toNat) * 16 + n4.toNat := by
  simp only [sampleCode]
  omega

/-- A full window loses its oldest code (R77). -/
theorem windowAdd_eq {w : List Nat} (h : w.length ≤ 9) (code : Nat) :
    windowAdd w code = if w.length = 9 then w.tail ++ [code] else w ++ [code] := by
  by_cases h9 : w.length = 9
  · rw [windowAdd, if_neg (by omega), if_pos h9, List.drop_one]
  · rw [windowAdd, if_pos (by omega), if_neg h9]

theorem Channel.goneStale_iff (c : Channel) : c.goneStale = true ↔ c.state = .stale ∧ c.heard = true := by
  rw [Channel.goneStale, Bool.and_eq_true, beq_iff_eq]

/-- What waits once the records of a good frame have joined it: STALE clear, BAD clear, SATURATED (R83). -/
theorem append_goodRecords (s : State) (ch : Fin 4) (code : Nat) (flag : Bool) (ns : List Notice) :
    ns ++ s.goodRecords ch code flag =
      ns
        ++ (if s.light.channels[ch].state = .stale ∧ s.light.channels[ch].heard = true then
            [.record (s.mkRecord .channel ch.val clsSensorStale .clear 0)] else [])
        ++ (if s.light.channels[ch].badActive then
            [.record (s.mkRecord .channel ch.val clsSensorBad .clear s.light.channels[ch].bad)] else [])
        ++ (if saturatedSample flag code = true ∧ s.light.channels[ch].satRun = false then
            [.record (s.mkRecord .channel ch.val clsSensorSaturated .occurrence code)] else []) := by
  simp only [State.goodRecords, Channel.goneStale_iff, Bool.and_eq_true, Bool.not_eq_true', List.append_assoc]

/-- A channel after a good frame, its counts as minima (R77 to R80). -/
theorem Channel.Ok.good_eq {c : Channel} (h : c.Ok) (code : Nat) (flag : Bool) (now : Stamp) (timeout : Nat) :
    c.good code flag now timeout = {
      state := .fresh, heard := true
      window := if c.window.length = 9 then c.window.tail ++ [code] else c.window ++ [code]
      timer := .running timeout, lastGood := some now, consecBad := 0, badActive := false
      satRun := saturatedSample flag code, samples := min max16 (c.samples + 1), bad := c.bad } := by
  have hw := h.window_length
  obtain ⟨-, -, -, -, -, -, hsamples, -⟩ := h
  rw [Channel.good, windowAdd_eq hw, satInc_eq_min hsamples]

/-- The condition of a channel after a bad frame is that three or more stand in a row: `Channel.Ok` says the same before
(R81). -/
theorem Channel.Ok.badFrame_eq {c : Channel} (h : c.Ok) :
    c.badFrame = { c with
      bad := min max16 (c.bad + 1), consecBad := min max16 (c.consecBad + 1)
      badActive := decide (3 ≤ min max16 (c.consecBad + 1)) } := by
  obtain ⟨-, -, -, -, hactive, -, -, -⟩ := h.badFrame
  obtain ⟨-, -, -, -, -, hle, -, hbad⟩ := h
  have hrow : c.badFrame.consecBad = min max16 (c.consecBad + 1) := satInc_eq_min (hle.trans hbad)
  rw [hrow] at hactive
  rw [← hactive, ← hrow, ← satInc_eq_min hbad]
  rfl

/-- A good frame sets its channel, and its records wait (R77 to R80, R83). -/
theorem goodFrame_eq {s : State} (h : s.InboxOk) (ch : Fin 4) (code : Nat) (flag : Bool) :
    s.goodFrame ch code flag =
      { s.setChannel ch (s.light.channels[ch].good code flag s.time.stamp s.policy.active.staleTimeout) with
        inbox := s.inbox ++ s.goodRecords ch code flag } :=
  hand_of_isRecord (s := s.setChannel ch _) h (goodRecords_isRecord s ch code flag)

/-- A bad frame sets its channel, and an onset waits where the condition was not active (R81). -/
theorem badSample_eq {s : State} (h : s.InboxOk) (ch : Fin 4) :
    s.badSample ch =
      { s.setChannel ch s.light.channels[ch].badFrame with
        inbox := s.inbox ++
          if s.light.channels[ch].badFrame.badActive && !s.light.channels[ch].badActive then
            [.record (s.mkRecord .channel ch.val clsSensorBad .onset s.light.channels[ch].badFrame.bad)]
          else [] } :=
  hand_of_isRecord (s := s.setChannel ch _) h isRecord_of_mem_ite

/-- Settles O44: each frame by what it makes of its channel (`Channel.Ok.good_eq`, `Channel.Ok.badFrame_eq`) and by what
then waits. -/
theorem sensorFrames : Obligations.SensorFrames := by
  intro s n0 n1 n2 n3 n4 n5 hr hin hok sum ch flag code c sat bad row
  obtain ⟨hshort, hch⟩ := hok
  have hc : c.Ok := hch ch
  have hcode : sampleCode n1 n2 n3 n4 = code := sampleCode_eq n1 n2 n3 n4
  have hrun {a b : State} : (if s.inReset then a else b) = b := if_neg (by simp [hr])
  refine ⟨fun hg => congrArg _ (hrun.trans ((if_pos (decide_eq_true hg)).trans ?_)),
    fun hb => congrArg _ (hrun.trans ((if_neg (by simpa [sampleGood] using hb)).trans ?_)),
    congrArg _ (hrun.trans ?_)⟩
  · rw [hcode]
    refine (goodFrame_eq hin ch code flag).trans ?_
    rw [State.setChannel, hc.good_eq, append_goodRecords]
    rfl
  · have honset : (c.badFrame.badActive && !c.badActive) = true ↔ c.badActive = false ∧ 3 ≤ row := by
      rw [hc.badFrame_eq, Bool.and_eq_true, Bool.not_eq_true', decide_eq_true_iff, and_comm]
      rfl
    refine (badSample_eq hin ch).trans ?_
    rw [if_congr honset rfl rfl, State.setChannel, hc.badFrame_eq]
    rfl
  · rw [satInc_eq_min hshort]
    rfl

/-! ### The filtered value (R77) -/

theorem insertCode_eq_orderedInsert (x : Nat) (l : List Nat) : insertCode x l = l.orderedInsert (· ≤ ·) x := by
  induction l with
  | nil => rfl
  | cons y ys ih => rw [insertCode, ih, List.orderedInsert_cons]

/-- The model's sort is the library's insertion sort. -/
theorem sortCodes_eq_insertionSort (l : List Nat) : sortCodes l = l.insertionSort (· ≤ ·) := by
  induction l with
  | nil => rfl
  | cons x xs ih => rw [sortCodes, ih, insertCode_eq_orderedInsert, List.insertionSort_cons]

theorem sortCodes_sorted (l : List Nat) : (sortCodes l).Pairwise (· ≤ ·) := by
  rw [sortCodes_eq_insertionSort]
  exact List.pairwise_insertionSort _ l

/-- A window with a code has a filtered value: its middle position lies within it. -/
theorem lowerMedian_isSome {w : List Nat} (h : w ≠ []) : (lowerMedian w).isSome = true := by
  have hpos := List.length_pos_iff.mpr h
  have hlt : (w.length - 1) / 2 < (sortCodes w).length := by
    rw [sortCodes_length]
    omega
  rw [lowerMedian, List.getElem?_eq_getElem hlt]
  rfl

/-! ### The light of a face (R84) -/

theorem mem_lightValues {s : State} {mask : BitVec 4} {v : Nat} :
    v ∈ s.lightValues mask ↔ ∃ c : Fin 4, mask.getLsbD c.val = true ∧ s.light.channels[c].state = .fresh ∧
      lowerMedian s.light.channels[c].window = some v := by
  have hall : ∀ c : Fin 4, c ∈ [(0 : Fin 4), 1, 2, 3] := by decide
  simp only [State.lightValues, List.mem_filterMap, hall, true_and, Option.ite_none_right_eq_some,
    Bool.and_eq_true, beq_iff_eq, and_assoc, Channel.filtered]

/-- No light of the mask's channels where each is STALE: a FRESH one has a filtered value. -/
theorem lightValues_eq_nil_iff {s : State} (h : s.LightOk) (mask : BitVec 4) :
    s.lightValues mask = [] ↔ ∀ c : Fin 4, mask.getLsbD c.val = true → s.light.channels[c].state = .stale := by
  rw [List.eq_nil_iff_forall_not_mem]
  constructor
  · intro hnone c hm
    cases hs : s.light.channels[c].state with
    | stale => rfl
    | fresh =>
      obtain ⟨hfresh, -⟩ := h.2 c
      obtain ⟨-, hpos, -⟩ := hfresh hs
      obtain ⟨v, hv⟩ := Option.isSome_iff_exists.mp (lowerMedian_isSome (List.length_pos_iff.mp hpos))
      exact absurd (mem_lightValues.mpr ⟨c, hm, hs, hv⟩) (hnone v)
  · intro hstale v hv
    obtain ⟨c, hm, hs, -⟩ := mem_lightValues.mp hv
    rw [hstale c hm] at hs
    cases hs

theorem combineLight_eq_none_iff {useMin : Bool} {vs : List Nat} : combineLight useMin vs = none ↔ vs = [] := by
  cases vs <;> simp [combineLight]

/-- The combine rule takes the library's least or greatest of the values. -/
theorem combineLight_eq (useMin : Bool) (vs : List Nat) :
    combineLight useMin vs = if useMin then vs.min? else vs.max? := by
  cases useMin <;> cases vs <;> rfl

/-- The light is one of the values, and the least of them under MIN or else the greatest (R84). -/
theorem combineLight_spec {useMin : Bool} {vs : List Nat} {l : Nat} (h : combineLight useMin vs = some l) :
    l ∈ vs ∧ ∀ v ∈ vs, if useMin = true then l ≤ v else v ≤ l := by
  rw [combineLight_eq] at h
  cases useMin with
  | true => exact List.min?_eq_some_iff.mp h
  | false => exact List.max?_eq_some_iff.mp h

/-- Settles O45: the model's sort sorts, and the light of a face is the extreme of the values of its FRESH channels. -/
theorem filteredValueAndFaceLight : Obligations.FilteredValueAndFaceLight := by
  refine ⟨fun w => ⟨rfl, fun hw =>
    ⟨sortCodes w, sortCodes_perm w, sortCodes_sorted w, rfl, lowerMedian_isSome hw⟩⟩, ?_⟩
  intro s f hok r gives
  refine ⟨?_, fun l hl => ?_⟩
  · exact (lightValues_eq_nil_iff hok r.sensorMask).symm.trans combineLight_eq_none_iff.symm
  · obtain ⟨hmem, hbest⟩ := combineLight_spec hl
    exact ⟨mem_lightValues.mp hmem, fun c v hv => hbest v (mem_lightValues.mpr ⟨c, hv⟩)⟩

end Sys2Proof.Machine
end

section
/-! SUPPORT. The statements about the Level Engine: the curve level at a light and what a dimming tick does to a face
(R87 to R97, R100). -/

namespace Sys2Proof.Machine

/-! ### The curve level, case by case (R89) -/

theorem curveLevel_of_le_head {pts : List (Nat × Nat)} {first : Nat × Nat} {l : Nat} (hf : pts.head? = some first)
    (hl : l ≤ first.1) : curveLevel pts l = first.2 := by
  obtain ⟨rest, rfl⟩ := List.head?_eq_some_iff.mp hf
  cases rest with
  | nil => rfl
  | cons q rest => exact if_pos hl

/-- On the first segment; at its first light the line and the end level agree. -/
theorem curveLevel_of_first_segment {p q : Nat × Nat} {rest : List (Nat × Nat)} {l : Nat} (hp : p.1 ≤ l) (hq : l < q.1) :
    curveLevel (p :: q :: rest) l = p.2 + (l - p.1) * (q.2 - p.2) / (q.1 - p.1) := by
  rcases hp.eq_or_lt with heq | hlt
  · simp [curveLevel, heq]
  · exact (if_neg hlt.not_ge).trans (if_pos hq)

/-- From the second point on, the first point decides nothing. -/
theorem curveLevel_cons_of_second_le {p q : Nat × Nat} {rest : List (Nat × Nat)} {l : Nat} (hpq : p.1 < q.1)
    (hq : q.1 ≤ l) : curveLevel (p :: q :: rest) l = curveLevel (q :: rest) l :=
  (if_neg (hpq.trans_le hq).not_ge).trans (if_neg hq.not_gt)

/-- A level between levels that are above a bound is above it (R89). -/
theorem le_curveLevel {n : Nat} {pts : List (Nat × Nat)} (hne : pts ≠ []) (h : ∀ p ∈ pts, n ≤ p.2) (l : Nat) :
    n ≤ curveLevel pts l := by
  induction pts with
  | nil => exact absurd rfl hne
  | cons p pts ih =>
    obtain ⟨hp, hrest⟩ := List.forall_mem_cons.mp h
    cases pts with
    | nil => exact hp
    | cons q rest =>
      simp only [curveLevel]
      split
      · exact hp
      · split
        · exact hp.trans (Nat.le_add_right _ _)
        · exact ih (List.cons_ne_nil _ _) hrest

/-! ### Points in order (R56) -/

/-- Light codes increase and levels do not decrease. -/
abbrev PointsRise (pts : List (Nat × Nat)) : Prop := pts.Pairwise fun p q => p.1 < q.1 ∧ p.2 ≤ q.2

section
variable {pts : List (Nat × Nat)} {first last p q : Nat × Nat} {i j l : Nat}

theorem PointsRise.lt (h : PointsRise pts) (hi : pts[i]? = some p) (hj : pts[j]? = some q) (hij : i < j) :
    p.1 < q.1 ∧ p.2 ≤ q.2 := by
  obtain ⟨hilt, rfl⟩ := List.getElem?_eq_some_iff.mp hi
  obtain ⟨hjlt, rfl⟩ := List.getElem?_eq_some_iff.mp hj
  exact List.pairwise_iff_getElem.mp h i j hilt hjlt hij

theorem PointsRise.le (h : PointsRise pts) (hi : pts[i]? = some p) (hj : pts[j]? = some q) (hij : i ≤ j) :
    p.1 ≤ q.1 ∧ p.2 ≤ q.2 := by
  rcases hij.eq_or_lt with rfl | hlt
  · obtain rfl : p = q := Option.some.inj (hi.symm.trans hj)
    exact ⟨le_rfl, le_rfl⟩
  · obtain ⟨hcode, hlevel⟩ := h.lt hi hj hlt
    exact ⟨hcode.le, hlevel⟩

/-- The points before the one at or below the light decide nothing. -/
theorem PointsRise.curveLevel_drop (h : PointsRise pts) (hi : pts[i]? = some p) (hl : p.1 ≤ l) :
    curveLevel (pts.drop i) l = curveLevel pts l := by
  induction i generalizing pts with
  | zero => rfl
  | succ i ih =>
    match pts, hi with
    | a :: b :: rest, hi =>
      have hab : a.1 < b.1 := (h.lt (i := 0) (j := 1) rfl rfl Nat.zero_lt_one).1
      have hbp : b.1 ≤ p.1 := (h.le (i := 1) rfl hi (Nat.succ_le_succ i.zero_le)).1
      exact (ih h.of_cons hi).trans (curveLevel_cons_of_second_le hab (hbp.trans hl)).symm

theorem PointsRise.curveLevel_of_last_le (h : PointsRise pts) (hlast : pts.getLast? = some last) (hl : last.1 ≤ l) :
    curveLevel pts l = last.2 := by
  obtain ⟨front, rfl⟩ := List.getLast?_eq_some_iff.mp hlast
  have hget : (front ++ [last])[front.length]? = some last := List.getElem?_concat_length
  rw [← h.curveLevel_drop hget hl, List.drop_left]
  rfl

theorem PointsRise.curveLevel_of_segment (h : PointsRise pts) (hi : pts[i]? = some p) (hi' : pts[i + 1]? = some q)
    (hp : p.1 ≤ l) (hq : l < q.1) : curveLevel pts l = p.2 + (l - p.1) * (q.2 - p.2) / (q.1 - p.1) := by
  obtain ⟨hlt, rfl⟩ := List.getElem?_eq_some_iff.mp hi
  obtain ⟨hlt', rfl⟩ := List.getElem?_eq_some_iff.mp hi'
  rw [← h.curveLevel_drop hi hp, List.drop_eq_getElem_cons hlt, List.drop_eq_getElem_cons hlt']
  exact curveLevel_of_first_segment hp hq

/-- A light between the end points lies on a segment. -/
theorem exists_segment (hfirst : pts.head? = some first) (hlast : pts.getLast? = some last) (hl : first.1 ≤ l)
    (hl' : l < last.1) : ∃ i p q, pts[i]? = some p ∧ pts[i + 1]? = some q ∧ p.1 ≤ l ∧ l < q.1 := by
  induction pts generalizing first with
  | nil => cases hfirst
  | cons p pts ih =>
    obtain rfl : p = first := Option.some.inj hfirst
    cases pts with
    | nil =>
      obtain rfl : p = last := Option.some.inj hlast
      omega
    | cons q rest =>
      by_cases hq : l < q.1
      · exact ⟨0, p, q, rfl, rfl, hl, hq⟩
      · obtain ⟨i, hseg⟩ := ih rfl (by simpa using hlast) (not_lt.mp hq)
        exact ⟨i + 1, hseg⟩

/-- Two segments that hold one light do not stand one before the other. -/
theorem PointsRise.segment_le (h : PointsRise pts) (hi : pts[i]? = some p) (hp : p.1 ≤ l) (hj : pts[j + 1]? = some q)
    (hq : l < q.1) : i ≤ j := by
  by_contra hlt
  have hqp : q.1 ≤ p.1 := (h.le hj hi (not_le.mp hlt)).1
  omega

theorem PointsRise.head_level_le (h : PointsRise pts) (hfirst : pts.head? = some first) : ∀ p ∈ pts, first.2 ≤ p.2 := by
  intro p hp
  obtain ⟨i, hi⟩ := List.mem_iff_getElem?.mp hp
  exact (h.le (List.head?_eq_getElem?.symm.trans hfirst) hi i.zero_le).2

theorem PointsRise.level_le_last (h : PointsRise pts) (hlast : pts.getLast? = some last) : ∀ p ∈ pts, p.2 ≤ last.2 := by
  intro p hp
  obtain ⟨i, hi⟩ := List.mem_iff_getElem?.mp hp
  obtain ⟨hlt, -⟩ := List.getElem?_eq_some_iff.mp hi
  exact (h.le hi (List.getLast?_eq_getElem?.symm.trans hlast) (Nat.le_sub_one_of_lt hlt)).2

end

/-- A straight line rounded down ends no higher than its second point. -/
theorem line_le {p q : Nat × Nat} {l : Nat} (hl : l < q.1) (hlevel : p.2 ≤ q.2) :
    p.2 + (l - p.1) * (q.2 - p.2) / (q.1 - p.1) ≤ q.2 := by
  have hrise : (l - p.1) * (q.2 - p.2) / (q.1 - p.1) ≤ q.2 - p.2 :=
    Nat.div_le_of_le_mul (Nat.mul_le_mul_right _ (by omega))
  omega

/-- Settles O42: the points before the segment that holds the light drop out, and points in order leave one such
segment. -/
theorem curveLevel_at_light : Obligations.CurveLevel := by
  intro first last pts l hfirst hlast hok
  obtain ⟨hlevels, hrise⟩ : (∀ p ∈ pts, p.2 ≤ 4095) ∧ PointsRise pts := (pointsOk_iff pts).mp hok
  have hne : pts ≠ [] := fun hnil => by simp [hnil] at hfirst
  refine ⟨curveLevel_of_le_head hfirst, hrise.curveLevel_of_last_le hlast, fun i p q hi hi' hp hq => ?_, fun hl hl' => ?_,
    le_curveLevel hne (hrise.head_level_le hfirst) l, curveLevel_le (hrise.level_le_last hlast) l⟩
  · have hline := hrise.curveLevel_of_segment hi hi' hp hq
    have hlevel : p.2 ≤ q.2 := (hrise.lt hi hi' i.lt_succ_self).2
    have hmax : q.2 ≤ 4095 := hlevels q (List.mem_of_getElem? hi')
    refine ⟨hline, hline ▸ Nat.le_add_right _ _, hline ▸ line_le hq hlevel, fun hcode => ?_⟩
    exact Nat.mul_le_mul (show l - p.1 ≤ 65535 by omega) (show q.2 - p.2 ≤ 4095 by omega)
  · obtain ⟨i, p, q, hi, hi', hp, hq⟩ := exists_segment hfirst hlast hl hl'
    refine ⟨i, p, q, hi, hi', hp, hq, fun j p' q' hj hj' hp' hq' => ?_⟩
    exact le_antisymm (hrise.segment_le hj hp' hi' hq) (hrise.segment_le hi hp hj' hq')

/-! ### A tick of one face (R88, R91 to R97) -/

/-- Slewing stops at the goal from either side (R94). -/
theorem slewToward_eq (goal rate p : Nat) :
    slewToward goal rate p = if p < goal then min goal (p + rate) else max goal (p - rate) := by
  unfold slewToward
  split <;> omega

theorem derateCap_eq (s : State) (f : Fin 8) :
    s.derateCap f = if s.faces[f].causes.derate = [] then 4095 else (s.policy.active.face f).derate := by
  simp only [State.derateCap, List.isEmpty_iff]

theorem derateCap_le (s : State) (f : Fin 8) : s.derateCap f ≤ 4095 := by
  unfold State.derateCap
  split
  · exact le_rfl
  · exact Nat.le_of_lt_succ (bits_lt _ 16 12)

/-- The derate cap alone bounds the target, so no table need be valid (R91, R92). -/
theorem targetOf_le_max (s : State) (f : Fin 8) : s.targetOf f ≤ 4095 :=
  (Nat.min_le_right _ _).trans ((Nat.min_le_right _ _).trans (derateCap_le s f))

/-- What a tick makes of the level of a computed face, from the level p it then holds: HOLD keeps it, and only RUN
clears the catch-up flag, where p stands on the goal (R93 to R95, R100). -/
theorem levelState_tick_eq {l : LevelState} {m : Mode} {r : FaceRecord} {light : Option Nat} {c k t p : Nat}
    (hp : p = if m = .hold then l.held else slewToward (t * 256) (r.rate l.catchUp (t * 256) l.held) l.held) :
    l.tick m r light c k t =
      { held := p, catchUp := l.catchUp && !(m == .run && p == t * 256)
        light := light, curve := c, cap := k, target := t } := by
  have hflag : (if m = .run && p = t * 256 then false else l.catchUp) =
      (l.catchUp && !(m == .run && p == t * 256)) := by
    by_cases hland : m = .run ∧ p = t * 256
    · simp [hland]
    · rw [if_neg (by simpa using hland), show (m == .run && p == t * 256) = false by simpa using hland]
      exact (Bool.and_true _).symm
  rw [LevelState.tick, ← hp, hflag]

/-- A tick that is taken computes the faces that are configured and not DARK, and leaves the others (R87). -/
theorem takeTick_face_of_raised {s : State} (h : s.time.tickRaised = true) (f : Fin 8) :
    s.takeTick.faces[f] =
      if s.configured f = true ∧ s.faces[f].mode ≠ .dark then
        { s.faces[f] with
          level := s.faces[f].level.tick s.faces[f].mode (s.policy.active.face f) (s.faceLight f) (s.curveOf f)
            (s.curfewCap f) (s.targetOf f) }
      else s.faces[f] := by
  rw [State.takeTick, if_pos h]
  exact (tabulate_get _ f).trans (if_congr (by simp) rfl rfl)

/-- Settles O41: a tick that is taken computes each face on its own, and slewing stops at the goal from either side. -/
theorem dimmingTick : Obligations.DimmingTick := by
  intro s hrun hraised
  have hexec : exec .dimmingTick s = .next s.takeTick := congrArg _ (if_neg (by simp [hrun]))
  have hframe : s.takeTick = { s with time := { s.time with tickRaised := false }, faces := s.takeTick.faces } := by
    rw [← takeTick_time]
    exact takeTick_frame s
  refine ⟨s.takeTick, hexec, hframe, ?_⟩
  intro f y r c k d target goal rate held
  have htarget : s.targetOf f = target := by
    rw [State.targetOf, derateCap_eq]
    rfl
  have hheld : held = if y.mode = .hold then y.level.held
      else slewToward goal (r.rate y.level.catchUp goal y.level.held) y.level.held := by
    rw [slewToward_eq]
    rfl
  refine ⟨fun hidle => ?_, fun hconf hmode => ⟨?_, htarget ▸ targetOf_le_max s f⟩⟩
  · rw [takeTick_face_of_raised hraised, if_neg]
    rintro ⟨hconf, hmode⟩
    rcases hidle with hnot | hdark
    · exact absurd hconf (by simp [hnot])
    · exact hmode hdark
  · rw [takeTick_face_of_raised hraised, if_pos ⟨hconf, hmode⟩, htarget, levelState_tick_eq hheld]
    rfl

end Sys2Proof.Machine
end

section
/-! SUPPORT. Pixel words: a scaled word field by field, and the statement about scaling (R107, R108, R111, R112). -/

namespace Sys2Proof.Machine

/-! ### The fields of a pixel word (12.2) -/

theorem pixelB_eq (w : Word) : pixelB w = w.toNat % 1024 := by simp [pixelB, bits_eq]

theorem pixelG_eq (w : Word) : pixelG w = w.toNat / 1024 % 1024 := by simp [pixelG, bits_eq]

theorem pixelR_eq (w : Word) : pixelR w = w.toNat / 1048576 % 1024 := by simp [pixelR, bits_eq]

theorem pixelB_lt (w : Word) : pixelB w < 1024 := bits_lt w 0 10

theorem pixelG_lt (w : Word) : pixelG w < 1024 := bits_lt w 10 10

theorem pixelR_lt (w : Word) : pixelR w < 1024 := bits_lt w 20 10

theorem flag_lt (w : Word) : w.toNat / 2 ^ 30 < 2 ^ 2 := by have := w.isLt; omega

/-- The three components added from R to B. -/
theorem pixelSum_eq (w : Word) : pixelSum w = pixelR w + pixelG w + pixelB w := by unfold pixelSum; omega

/-- What remains of a word without its components is its flag field. -/
theorem blackWord_eq_put (w : Word) : blackWord w = put 30 2 (w.toNat / 2 ^ 30) := by
  have hmask : ∀ i : Fin 32, (0xC0000000#32).getLsbD i.val = decide (30 ≤ i.val) := by decide
  have hflag : w.toNat / 2 ^ 30 = bits w 30 2 := by
    rw [bits_eq, Nat.mod_eq_of_lt (flag_lt w)]
  rw [hflag]
  refine BitVec.eq_of_getLsbD_eq fun i hi => ?_
  rw [blackWord, BitVec.getLsbD_and, hmask ⟨i, hi⟩, getLsbD_put _ _ _ _ hi, testBit_bits]
  by_cases h : 30 ≤ i
  · have hlt : i - 30 < 2 := by omega
    simp [h, hlt]
  · simp [h]

/-! ### Scaled components (R108) -/

/-- A component scaled by at most 4,096 does not grow. -/
theorem scaleComponent_le (x : Nat) {f : Nat} (hf : f ≤ 4096) : scaleComponent x f ≤ x := by
  have hmul : x * f ≤ x * 4096 := Nat.mul_le_mul_left x hf
  unfold scaleComponent
  omega

/-- At the full factor every component passes equal. -/
theorem scaleComponent_full (x : Nat) : scaleComponent x 4096 = x := by unfold scaleComponent; omega

theorem scaleComponent_zero (x : Nat) : scaleComponent x 0 = 0 := by simp [scaleComponent]

/-- No component is great enough to show at a factor of 1. -/
theorem scaleComponent_one {x : Nat} (h : x < 1024) : scaleComponent x 1 = 0 := by unfold scaleComponent; omega

theorem zero_scaleComponent (f : Nat) : scaleComponent 0 f = 0 := by simp [scaleComponent]

/-- The products of R108 stay within 22 bits. -/
theorem component_mul_le {x f : Nat} (hx : x < 1024) (hf : f ≤ 4096) : x * f ≤ 4190208 :=
  Nat.mul_le_mul (Nat.le_of_lt_succ hx) hf

/-! ### Scaled words (R108) -/

/-- A scaled word as the sum of its four fields. -/
theorem scaleWord_toNat (w : Word) {f : Nat} (hf : f ≤ 4096) :
    (scaleWord f w).toNat = scaleComponent (pixelB w) f + scaleComponent (pixelG w) f * 2 ^ 10 +
      scaleComponent (pixelR w) f * 2 ^ 20 + w.toNat / 2 ^ 30 * 2 ^ 30 := by
  have hB := (scaleComponent_le (pixelB w) hf).trans_lt (pixelB_lt w)
  have hG := (scaleComponent_le (pixelG w) hf).trans_lt (pixelG_lt w)
  have hR := (scaleComponent_le (pixelR w) hf).trans_lt (pixelR_lt w)
  have hword : scaleWord f w = put 0 10 (scaleComponent (pixelB w) f) ||| put 10 10 (scaleComponent (pixelG w) f) |||
      put 20 10 (scaleComponent (pixelR w) f) ||| put 30 2 (w.toNat / 2 ^ 30) := by
    rw [← blackWord_eq_put]
    rfl
  rw [hword]
  exact ((((FitsWord.put (n := 10) hB).or (lo := 10) (n := 10) le_rfl hG).or (lo := 20) (n := 10) le_rfl hR).or
    (lo := 30) le_rfl (flag_lt w)).toNat le_rfl

/-- The fields of a scaled word: each component scaled, the flag field as it arrived. -/
theorem scaleWord_fields (w : Word) {f : Nat} (hf : f ≤ 4096) :
    pixelR (scaleWord f w) = scaleComponent (pixelR w) f ∧ pixelG (scaleWord f w) = scaleComponent (pixelG w) f ∧
      pixelB (scaleWord f w) = scaleComponent (pixelB w) f ∧ (scaleWord f w).toNat / 2 ^ 30 = w.toNat / 2 ^ 30 := by
  have hB := (scaleComponent_le (pixelB w) hf).trans_lt (pixelB_lt w)
  have hG := (scaleComponent_le (pixelG w) hf).trans_lt (pixelG_lt w)
  have hR := (scaleComponent_le (pixelR w) hf).trans_lt (pixelR_lt w)
  rw [pixelR_eq (scaleWord f w), pixelG_eq (scaleWord f w), pixelB_eq (scaleWord f w), scaleWord_toNat w hf]
  omega

/-- A word passes the full factor as it is. -/
theorem scaleWord_full (w : Word) : scaleWord 4096 w = w := by
  refine BitVec.eq_of_toNat_eq ?_
  rw [scaleWord_toNat w le_rfl]
  simp only [scaleComponent_full, pixelR_eq, pixelG_eq, pixelB_eq]
  omega

/-- A black word is a word scaled by 0. -/
theorem scaleWord_zero (w : Word) : scaleWord 0 w = blackWord w := by
  simp [scaleWord, scaleComponent_zero, put, blackWord]

/-- Settles O25: the fields of a scaled word, and what the formula makes of each component. -/
theorem scaledWord : Obligations.ScaledWord := by
  intro w f hf
  obtain ⟨hR, hG, hB, hflag⟩ := scaleWord_fields w hf
  obtain ⟨hR0, hG0, hB0, -⟩ := scaleWord_fields w (f := 0) (by decide)
  obtain ⟨hR1, hG1, hB1, -⟩ := scaleWord_fields w (f := 1) (by decide)
  refine ⟨hR, hG, hB, hflag, component_mul_le (pixelR_lt w) hf, component_mul_le (pixelG_lt w) hf,
    component_mul_le (pixelB_lt w) hf, scaleWord_full w, ⟨?_, ?_, ?_⟩, ⟨?_, ?_, ?_⟩, ⟨?_, ?_, ?_⟩,
    fun h => ?_, fun h => ?_, fun h => ?_⟩
  · exact hR ▸ scaleComponent_le _ hf
  · exact hG ▸ scaleComponent_le _ hf
  · exact hB ▸ scaleComponent_le _ hf
  · exact hR0.trans (scaleComponent_zero _)
  · exact hG0.trans (scaleComponent_zero _)
  · exact hB0.trans (scaleComponent_zero _)
  · exact hR1.trans (scaleComponent_one (pixelR_lt w))
  · exact hG1.trans (scaleComponent_one (pixelG_lt w))
  · exact hB1.trans (scaleComponent_one (pixelB_lt w))
  · rw [hR, h, zero_scaleComponent]
  · rw [hG, h, zero_scaleComponent]
  · rw [hB, h, zero_scaleComponent]

end Sys2Proof.Machine
end

section
/-! SUPPORT. A pixel beat of a face: what leaves, how it is counted, and the statements about beats that never brighten
and about a pixel of the frame in progress (R107 to R113, R126, R130). -/

namespace Sys2Proof.Machine

/-! ### One face at a beat -/

/-- The word that leaves for a pixel of the face in a zone of this trim (R111, R112). -/
def FaceState.shows (x : FaceState) (trim : Nat) (w : Word) : Word :=
  if x.blanked then blackWord w else scaleWord (zoneFactor x.pixel.factor trim) w

/-- The face with the pixel beat counted (R113). -/
def FaceState.takeBeat (x : FaceState) (trim : Nat) (w : Word) : FaceState :=
  { x with pixel := x.pixel.countBeat w (x.shows trim w) }

theorem pixelOut_eq (s : State) (f : Fin 8) (z : Fin 16) (w : Word) :
    s.pixelOut f z w = s.faces[f].shows (s.policy.active.trim f z) w := rfl

/-- A beat is taken by its face and leaves toward the controller. -/
theorem scalePixel_eq (s : State) (f : Fin 8) (z : Fin 16) (w : Word) :
    s.scalePixel f z w =
      (s.modFace f (·.takeBeat (s.policy.active.trim f z) w)).deliver
        (s.faces[f].shows (s.policy.active.trim f z) w) := by
  rw [State.scalePixel, pixelOut_eq, State.modFace, State.modFace]
  rfl

@[simp] theorem modFace_get (s : State) (f : Fin 8) (g : FaceState → FaceState) :
    (s.modFace f g).faces[f] = g s.faces[f] := by simp

/-- A beat of a face that has changed before it. -/
theorem scalePixel_modFace (s : State) (f : Fin 8) (g : FaceState → FaceState) (z : Fin 16) (w : Word) :
    (s.modFace f g).scalePixel f z w =
      (s.modFace f fun x => (g x).takeBeat (s.policy.active.trim f z) w).deliver
        ((g s.faces[f]).shows (s.policy.active.trim f z) w) := by
  rw [scalePixel_eq, modFace_modFace, modFace_get]
  rfl

/-- The word of a face that is not DARK, with R112 and R111 written out. -/
theorem shows_of_not_dark {x : FaceState} (h : x.mode ≠ .dark) (trim : Nat) (w : Word) :
    x.shows trim w =
      if x.mode = .blank ∨ x.causes.blank ≠ [] then w &&& 0xC0000000#32
      else scaleWord (x.pixel.factor * trim / 256) w := by
  refine if_congr ?_ rfl rfl
  simp [FaceState.blanked, h]

/-- A beat of an OPEN frame is counted up to the limit of the count (R113). -/
theorem countBeat_of_open {p : PixelState} (h : p.frameOpen = true) (w v : Word) :
    p.countBeat w v =
      if p.count < 16777215 then
        { p with
          count := p.count + 1, sumIn := p.sumIn + (pixelR w + pixelG w + pixelB w)
          sumOut := p.sumOut + (pixelR v + pixelG v + pixelB v) }
      else p := by
  rw [← pixelSum_eq, ← pixelSum_eq, PixelState.countBeat, h]
  exact if_congr (by rw [Bool.true_and, decide_eq_true_iff, maxPixels]) rfl rfl

/-! ### No beat brightens (R107) -/

/-- No component of the word that leaves is greater than the one that arrived, and the flag field is the same. -/
structure Dimmed (v w : Word) : Prop where
  r : pixelR v ≤ pixelR w
  g : pixelG v ≤ pixelG w
  b : pixelB v ≤ pixelB w
  flag : v.toNat / 2 ^ 30 = w.toNat / 2 ^ 30

theorem Dimmed.refl (w : Word) : Dimmed w w := ⟨le_rfl, le_rfl, le_rfl, rfl⟩

theorem dimmed_scaleWord (w : Word) {f : Nat} (hf : f ≤ 4096) : Dimmed (scaleWord f w) w := by
  obtain ⟨hR, hG, hB, hflag⟩ := scaleWord_fields w hf
  exact ⟨hR ▸ scaleComponent_le _ hf, hG ▸ scaleComponent_le _ hf, hB ▸ scaleComponent_le _ hf, hflag⟩

theorem dimmed_blackWord (w : Word) : Dimmed (blackWord w) w := scaleWord_zero w ▸ dimmed_scaleWord w (Nat.zero_le _)

/-- A valid trim only lowers the frame factor (R111). -/
theorem zoneFactor_le {factor trim : Nat} (h : trim ≤ 256) : zoneFactor factor trim ≤ factor :=
  Nat.div_le_of_le_mul (by rw [Nat.mul_comm]; exact Nat.mul_le_mul_right _ h)

theorem dimmed_shows {x : FaceState} (hx : x.pixel.factor ≤ 4096) {trim : Nat} (ht : trim ≤ 256) (w : Word) :
    Dimmed (x.shows trim w) w := by
  unfold FaceState.shows
  split
  · exact dimmed_blackWord w
  · exact dimmed_scaleWord w ((zoneFactor_le ht).trans hx)

theorem fallbackFactor_le (s : State) : s.fallbackFactor ≤ 4096 := by
  cases h : s.straps with
  | none => simp [State.fallbackFactor, h]
  | some p =>
    have hlevel : s.fallbackFactor = s.fallbackLevel := by
      simp [State.fallbackFactor, State.fallbackLevel, State.strapImage, h]
    exact hlevel ▸ Nat.le_succ_of_le (fallbackLevel_le s)

/-- The word last driven toward the controller is the one that arrived, dimmed or as it was. -/
def State.DrivesDimmed (s : State) (w : Word) : Prop := ∃ v, s.bus.toController = some v ∧ Dimmed v w

theorem State.DrivesDimmed.of_bus {s t : State} {w : Word} (h : s.DrivesDimmed w) (ht : t.bus = s.bus) :
    t.DrivesDimmed w := by rwa [State.DrivesDimmed, ht]

theorem deliver_drivesDimmed (s : State) {v w : Word} (h : Dimmed v w) : (s.deliver v).DrivesDimmed w := ⟨v, rfl, h⟩

theorem scalePixel_drivesDimmed {s : State} {f : Fin 8} {z : Fin 16} (hx : s.faces[f].pixel.factor ≤ 4096)
    (ht : s.policy.active.trim f z ≤ 256) (w : Word) : (s.scalePixel f z w).DrivesDimmed w :=
  deliver_drivesDimmed _ (dimmed_shows hx ht w)

@[simp] theorem hand_bus (s : State) (ns : List Notice) : (s.hand ns).bus = s.bus := by rw [State.hand, drain_frame]

/-- A beat leaves dimmed after what has kept the tables and the frame factor of its face. -/
theorem KeepsAll.scalePixel_drivesDimmed {s t : State} (h : KeepsAll s t) {f : Fin 8} {z : Fin 16}
    (hx : s.faces[f].pixel.factor ≤ 4096) (ht : s.policy.active.trim f z ≤ 256) (w : Word) :
    (t.scalePixel f z w).DrivesDimmed w := by
  obtain ⟨-, -, htables, -⟩ := settings_eq_iff.mp h.settings
  exact Machine.scalePixel_drivesDimmed ((h.face f).factor ▸ hx) (htables ▸ ht) w

theorem factorOf_le (q : Nat) : factorOf q ≤ 4096 := by unfold factorOf; split <;> omega

/-- The frame factor that a frame start latches is at most the level's factor (R115). -/
theorem frameStart_factor_le (p : PixelState) (m n : Nat) : (p.frameStart m n).factor ≤ n := by
  unfold PixelState.frameStart
  split <;> exact Nat.min_le_left _ _

/-- The starting beat of a frame leaves dimmed on either side of an automatic release. -/
theorem startBeat_drivesDimmed {s : State} {f : Fin 8} {z : Fin 16} (ht : s.policy.active.trim f z ≤ 256) (b : Buffer)
    (l : Nat) (w : Word) : (s.startBeat f b l z w).DrivesDimmed w := by
  have hx : (s.frameStarted f b l).faces[f].pixel.factor ≤ 4096 := by
    rw [State.frameStarted, modFace_get]
    exact (frameStart_factor_le _ _ _).trans (factorOf_le _)
  have hafter (ns : List Notice) : (((s.frameStarted f b l).hand ns).scalePixel f z w).DrivesDimmed w :=
    (hand_keepsAll _ ns).scalePixel_drivesDimmed hx ht w
  have hbefore (ns : List Notice) : (((s.frameStarted f b l).scalePixel f z w).hand ns).DrivesDimmed w :=
    (scalePixel_drivesDimmed hx ht w).of_bus (hand_bus _ ns)
  exact of_ite (P := (State.DrivesDimmed · w)) (hafter _)
    (State.DrivesDimmed.of_bus (of_ite (P := (State.DrivesDimmed · w)) (hafter _) (hbefore _)) rfl)

theorem pixelRead_drivesDimmed {s : State} {f : Fin 8} {z : Fin 16} (hx : s.faces[f].pixel.factor ≤ 4096)
    (ht : s.policy.active.trim f z ≤ 256) (b : Buffer) (l : Nat) (w : Word) :
    (s.pixelRead f b l z w).DrivesDimmed w := by
  have htimer := startStallTimer_keepsAll s f
  have hcontinued : KeepsAll s ((s.startStallTimer f).modFace f fun x => { x with scan := x.scan.continued l }) :=
    htimer.trans (modFace_keeps absorbs_same _ f ⟨rfl, rfl, rfl⟩)
  unfold State.pixelRead
  split
  · exact scalePixel_drivesDimmed hx ht w
  · split
    · exact startBeat_drivesDimmed (s := s.startStallTimer f) ht b l w
    · exact hcontinued.scalePixel_drivesDimmed hx ht w

/-- Settles O24: by the class of the beat; a factor of at most 4,096 brightens no component. -/
theorem readBeatsNeverBrighten : Obligations.ReadBeatsNeverBrighten := by
  intro s a w hfaces htrim
  suffices h : (∃ off, s.classify a = .policy off ∨ s.classify a = .report off) ∨
      (s.readBeat a w).DrivesDimmed w from h.imp_right fun ⟨v, hv, hd⟩ => ⟨v, hv, hd.r, hd.g, hd.b, hd.flag⟩
  unfold State.readBeat
  cases s.classify a with
  | policy off => exact .inl ⟨off, .inl rfl⟩
  | report off => exact .inl ⟨off, .inr rfl⟩
  | unattributed => exact .inr (deliver_drivesDimmed s (dimmed_scaleWord w (fallbackFactor_le s)))
  | padding f b => exact .inr (deliver_drivesDimmed s (.refl w))
  | other configured =>
    refine .inr (deliver_drivesDimmed s ?_)
    cases configured
    · exact dimmed_scaleWord w (fallbackFactor_le s)
    · exact .refl w
  | pixel f b x line z =>
    obtain ⟨-, -, -, -, -, hfactor, -⟩ := (hfaces f).1
    exact .inr (pixelRead_drivesDimmed hfactor (htrim f z) b line w)

/-! ### The frame in progress (R126, R130) -/

/-- Which pixel read is a frame start (R126). -/
theorem isStart_iff (x : ScanState) (b : Buffer) (l : Nat) :
    x.isStart b l = true ↔ x.state ≠ .scanning ∨ b ≠ x.displayed ∨ l < x.lastLine := by
  simp [ScanState.isStart, or_assoc]

/-- A monitored face's beat that continues its frame: timer and lines, then the beat. -/
theorem pixelRead_of_continuing {s : State} {f : Fin 8} (hm : s.monitored f = true) {b : Buffer} {l : Nat}
    (hb : s.faces[f].scan.isStart b l = false) (z : Fin 16) (w : Word) :
    s.pixelRead f b l z w =
      (s.modFace f fun x =>
        { x with scan := ({ x.scan with timer := .running s.policy.active.stallWindow } : ScanState).continued l }
        ).scalePixel f z w := by
  rw [State.pixelRead, hm, hb, State.startStallTimer, modFace_modFace]
  rfl

theorem continued_of_le {x : ScanState} {l : Nat} (h : x.lastLine ≤ l) :
    x.continued l =
      { x with lastLine := l, linesSeen := if x.lastLine < l then x.linesSeen + 1 else x.linesSeen } := by
  unfold ScanState.continued
  split
  · rfl
  · have hl : x.lastLine = l := by omega
    rw [← hl]

/-- Settles O26: no frame start, so the monitor goes on; then the beat of the OPEN frame. -/
theorem pixelOfTheFrameInProgress : Obligations.PixelOfTheFrameInProgress := by
  intro s f x line z w hcfg hmode hscan hline hopen
  have hm : s.monitored f = true := (monitored_iff s f).mpr ⟨hcfg, hmode⟩
  have hb : s.faces[f].scan.isStart s.faces[f].scan.displayed line = false := by
    rw [Bool.eq_false_iff, Ne, isStart_iff]
    rintro (h | h | h)
    · exact h hscan
    · exact h rfl
    · exact Nat.not_lt.mpr hline h
  refine (pixelRead_of_continuing hm hb z w).trans ?_
  rw [scalePixel_modFace, shows_of_not_dark (by exact hmode)]
  unfold State.modFace FaceState.takeBeat
  simp only []
  rw [continued_of_le (by exact hline), shows_of_not_dark (by exact hmode), countBeat_of_open hopen]
  rfl

end Sys2Proof.Machine
end

section
/-! SUPPORT. A frame start: what it hands over, the face it leaves, and its starting beat on either side of an automatic
release (R112, R114, R115, R126 to R130, R152). -/

namespace Sys2Proof.Machine

/-! ### What a frame start hands over (R114, R118, R129) -/

/-- A frame start in a buffer is a flip (R128). -/
theorem isFlip_eq (x : ScanState) (b : Buffer) :
    x.isFlip b = decide (b ≠ x.displayed ∧ x.state ≠ .noSignal) := by
  rw [Bool.eq_iff_iff]
  simp [ScanState.isFlip]

/-- The supervisor's records of a frame start, in the order of R129. -/
def State.scanRecords (s : State) (f : Fin 8) (b : Buffer) : List Record :=
  let x := s.faces[f].scan
  (if x.state = .scanning ∧ x.linesSeen < s.regions[f].height then
    [s.mkRecord .face f.val clsPartialFrame .occurrence x.linesSeen] else [])
  ++ (if x.state = .stalled then [s.mkRecord .face f.val clsScanStall .clear 0] else [])
  ++ (if x.isFlip b = true ∧ x.dwell s.time.stamp < s.policy.active.minDwell then
    [s.mkRecord .face f.val clsDwellShort .occurrence (min (x.dwell s.time.stamp / 10) max16)] else [])

/-- The excursion of the completed frame, where there is one (R118). -/
def State.excursionRecord (s : State) (f : Fin 8) : List Record :=
  let p := s.faces[f].pixel
  let m := (s.policy.active.face f).aplLimit
  let aOut := p.sumOut / (3 * p.count)
  if p.frameOpen = true ∧ m ≠ 0 ∧ m + s.policy.active.aplTolerance < aOut then
    [s.mkRecord .face f.val clsAplExcursion .occurrence aOut] else []

/-- Records, and behind them the completion of a frame where there is one. -/
def completionNotices (f : Fin 8) (rs : List Record) (completes : Bool) : List Notice :=
  rs.map .record ++ if completes then [.completion f] else []

theorem map_ite_singleton {c : Prop} [Decidable c] (r : Record) :
    (if c then [r] else []).map Notice.record = if c then [Notice.record r] else [] := by
  split <;> rfl

theorem startRecords_eq (s : State) (f : Fin 8) (b : Buffer) :
    s.startRecords f b = (s.scanRecords f b).map .record := by
  simp only [State.startRecords, State.scanRecords, List.map_append, map_ite_singleton, Bool.and_eq_true,
    decide_eq_true_eq]
  refine congrArg (· ++ _) ?_
  cases s.faces[f].scan.state with
  | scanning => simp
  | stalled => rfl
  | noSignal => rfl

theorem scalerNotices_eq (s : State) (f : Fin 8) :
    s.scalerNotices f = completionNotices f (s.excursionRecord f) s.faces[f].pixel.frameOpen := by
  simp only [State.scalerNotices, completionNotices, State.excursionRecord, map_ite_singleton, Bool.and_eq_true,
    bne_iff_ne, decide_eq_true_eq]
  cases s.faces[f].pixel.frameOpen with
  | true => exact congrArg (· ++ _) (if_congr (by simp [PixelState.complete]) rfl rfl)
  | false => rfl

/-- All that a frame start hands over. -/
theorem startNotices_eq (s : State) (f : Fin 8) (b : Buffer) :
    s.startRecords f b ++ s.scalerNotices f =
      completionNotices f (s.scanRecords f b ++ s.excursionRecord f) s.faces[f].pixel.frameOpen := by
  rw [startRecords_eq, scalerNotices_eq, completionNotices, completionNotices, List.map_append, List.append_assoc]

/-- The restarted stall timer shows in no record. -/
theorem records_startStallTimer (s : State) (f : Fin 8) (b : Buffer) :
    (s.startStallTimer f).scanRecords f b ++ (s.startStallTimer f).excursionRecord f =
      s.scanRecords f b ++ s.excursionRecord f := by
  simp only [State.scanRecords, State.excursionRecord, State.startStallTimer, modFace_get]
  rfl

/-! ### What becomes of it at the Constraint Block (R147, R152) -/

/-- The causes of the face: a completion that nothing waits before is taken at once. -/
def causesAfter (inbox : List Notice) (rs : List Record) (completes : Bool) (cleanFrames : Nat) (c : CauseState) :
    CauseState :=
  if inbox = [] ∧ rs = [] ∧ completes = true then c.completed cleanFrames else c

/-- What waits: nothing where nothing waits before a completion. -/
def inboxAfter (inbox : List Notice) (f : Fin 8) (rs : List Record) (completes : Bool) : List Notice :=
  if inbox = [] ∧ rs = [] then [] else inbox ++ completionNotices f rs completes

/-- Where anything waits before the completion, a record does. -/
theorem isRecord_of_waiting {s : State} (hin : s.InboxOk) (f : Fin 8) {rs : List Record}
    (h : ¬ (s.inbox = [] ∧ rs = [])) (completes : Bool) :
    ∀ n ∈ (s.inbox ++ completionNotices f rs completes).head?, n.isRecord = true := by
  intro n hn
  cases hi : s.inbox with
  | cons m ms => exact hin n (by simpa [hi] using hn)
  | nil =>
    cases rs with
    | nil => exact absurd ⟨hi, rfl⟩ h
    | cons r rs =>
      obtain rfl : Notice.record r = n := by simpa [hi, completionNotices] using hn
      rfl

/-- Records and a completion of a configured face that are handed over. -/
theorem hand_completionNotices {s : State} (hin : s.InboxOk) {f : Fin 8} (hf : s.configured f = true) (rs : List Record)
    (completes : Bool) :
    s.hand (completionNotices f rs completes) =
      ({ s with inbox := inboxAfter s.inbox f rs completes } : State).modFace f fun x =>
        { x with causes := causesAfter s.inbox rs completes s.policy.active.cleanFrames x.causes } := by
  rw [State.hand]
  by_cases hnone : s.inbox = [] ∧ rs = []
  · obtain ⟨hi, rfl⟩ := hnone
    rw [inboxAfter, if_pos ⟨hi, rfl⟩, hi]
    cases completes with
    | true =>
      have htaken : s.takeCompletion f =
          s.modFace f fun x => { x with causes := x.causes.completed s.policy.active.cleanFrames } := if_pos hf
      exact congrArg (fun t : State => { t with inbox := [] }) htaken
    | false => exact (modFace_of_eq (s := { s with inbox := [] }) rfl).symm
  · have hcauses (c : CauseState) : causesAfter s.inbox rs completes s.policy.active.cleanFrames c = c :=
      if_neg fun h => hnone ⟨h.1, h.2.1⟩
    rw [drain_of_record_first _ _ (isRecord_of_waiting hin f hnone completes), inboxAfter, if_neg hnone]
    exact (modFace_of_eq (s := { s with inbox := s.inbox ++ completionNotices f rs completes })
      (congrArg (fun c => { s.faces[f] with causes := c }) (hcauses _))).symm

/-! ### The face at a frame start -/

/-- The face with its monitor and its next frame started, before its starting beat (R115, R126 to R130). -/
def FaceState.startsFrame (x : FaceState) (b : Buffer) (l : Nat) (now : Stamp) (window limit : Nat) : FaceState :=
  { x with
    scan := ({ x.scan with timer := .running window } : ScanState).started b l now
    pixel := x.pixel.frameStart limit (factorOf x.level.output) }

theorem frameStarted_startStallTimer (s : State) (f : Fin 8) (b : Buffer) (l : Nat) :
    (s.startStallTimer f).frameStarted f b l =
      s.modFace f (·.startsFrame b l s.time.stamp s.policy.active.stallWindow (s.policy.active.face f).aplLimit) := by
  rw [State.frameStarted, State.startStallTimer, modFace_modFace]
  rfl

/-- The monitor of the face (R126 to R130). -/
theorem startsFrame_scan (x : FaceState) (b : Buffer) (l : Nat) (now : Stamp) (window limit : Nat) :
    (x.startsFrame b l now window limit).scan =
      { state := .scanning, displayed := b, lastLine := l, linesSeen := 1
        lastFlip := if x.scan.isFlip b = true ∨ x.scan.state = .noSignal then now else x.scan.lastFlip
        timer := .running window, liveWrites := x.scan.liveWrites } := by
  have hflip : (if (x.scan.isFlip b || x.scan.state == .noSignal) = true then now else x.scan.lastFlip) =
      if x.scan.isFlip b = true ∨ x.scan.state = .noSignal then now else x.scan.lastFlip :=
    if_congr (by simp) rfl rfl
  rw [← hflip]
  rfl

theorem aplFactorOf_eq (m aIn : Nat) : aplFactorOf m aIn = if m = 0 ∨ aIn ≤ m then 4096 else m * 4096 / aIn :=
  if_congr (by simp) rfl rfl

/-- The scaler's state of the face: the frame that was OPEN completed, and the next one OPEN with no pixel yet. -/
theorem frameStart_eq (p : PixelState) (m n : Nat) :
    p.frameStart m n =
      let aIn := p.sumIn / (3 * p.count)
      let fApl := if p.frameOpen then (if m = 0 ∨ aIn ≤ m then 4096 else m * 4096 / aIn) else p.aplFactor
      { factor := min n fApl, aplFactor := fApl, frameOpen := true, count := 0, sumIn := 0, sumOut := 0
        aplIn := if p.frameOpen then aIn else p.aplIn
        aplOut := if p.frameOpen then p.sumOut / (3 * p.count) else p.aplOut
        frames := if p.frameOpen then p.frames + 1 else p.frames } := by
  simp only [← aplFactorOf_eq]
  unfold PixelState.frameStart
  cases p.frameOpen <;> rfl

/-- The same with its starting beat, the first pixel of the next frame. -/
theorem frameStart_countBeat (p : PixelState) (m n : Nat) (w v : Word) :
    (p.frameStart m n).countBeat w v =
      { p.frameStart m n with
        count := 1, sumIn := pixelR w + pixelG w + pixelB w, sumOut := pixelR v + pixelG v + pixelB v } := by
  rw [countBeat_of_open (frameStart_frameOpen p m n), frameStart_eq]
  simp

/-! ### The starting beat (R112, R115, R152) -/

/-- Face f with its starting beat, which finds the causes c, and with the causes that what is handed over leaves it;
what waits; and the word that leaves. -/
def State.startingBeat (s : State) (f : Fin 8) (x : FaceState) (c after : CauseState) (waits : List Notice)
    (trim : Nat) (w : Word) : State :=
  (({ s with inbox := waits } : State).modFace f fun _ =>
    { ({ x with causes := c } : FaceState).takeBeat trim w with causes := after }).deliver
      (({ x with causes := c } : FaceState).shows trim w)

theorem startingBeat_face (s : State) (f : Fin 8) (x : FaceState) (c after : CauseState) (waits : List Notice)
    (trim : Nat) (w : Word) :
    (s.startingBeat f x c after waits trim w).faces[f] =
      { ({ x with causes := c } : FaceState).takeBeat trim w with causes := after } := by
  rw [State.startingBeat, State.deliver_faces, modFace_get]

theorem startingBeat_face_of_ne (s : State) {f g : Fin 8} (h : g ≠ f) (x : FaceState) (c after : CauseState)
    (waits : List Notice) (trim : Nat) (w : Word) :
    (s.startingBeat f x c after waits trim w).faces[g] = s.faces[g] := by
  simp [State.startingBeat, Fin.val_ne_of_ne (Ne.symm h)]

/-- What leaves the part decides nothing of what is handed over. -/
theorem hand_deliver (s : State) (v : Word) (ns : List Notice) : (s.deliver v).hand ns = (s.hand ns).deliver v := by
  rw [State.hand, State.deliver, drain_setBus, State.deliver, hand_bus]
  rfl

section
variable {s : State} (hin : s.InboxOk) {f : Fin 8} (hf : s.configured f = true) (g : FaceState → FaceState)
  (rs : List Record) (completes : Bool) (z : Fin 16) (w : Word)
include hin hf

/-- What a face hands over once it has changed. -/
theorem hand_modFace :
    (s.modFace f g).hand (completionNotices f rs completes) =
      ({ s with inbox := inboxAfter s.inbox f rs completes } : State).modFace f fun x =>
        { g x with causes := causesAfter s.inbox rs completes s.policy.active.cleanFrames (g x).causes } :=
  (hand_completionNotices (s := s.modFace f g) hin hf rs completes).trans
    (modFace_modFace { s with inbox := inboxAfter s.inbox f rs completes } f g _)

/-- A face that changes and takes its beat after what it hands over. -/
theorem hand_then_scalePixel :
    let x := g s.faces[f]
    let after := causesAfter s.inbox rs completes s.policy.active.cleanFrames x.causes
    ((s.modFace f g).hand (completionNotices f rs completes)).scalePixel f z w =
      s.startingBeat f x after after (inboxAfter s.inbox f rs completes) (s.policy.active.trim f z) w := by
  rw [hand_modFace hin hf, scalePixel_modFace]
  unfold State.startingBeat State.modFace
  rfl

/-- A face that changes and takes its beat before what it hands over. -/
theorem scalePixel_then_hand :
    let x := g s.faces[f]
    let after := causesAfter s.inbox rs completes s.policy.active.cleanFrames x.causes
    ((s.modFace f g).scalePixel f z w).hand (completionNotices f rs completes) =
      s.startingBeat f x x.causes after (inboxAfter s.inbox f rs completes) (s.policy.active.trim f z) w := by
  rw [scalePixel_modFace, hand_deliver, hand_modFace hin hf]
  unfold State.startingBeat State.modFace
  rfl

end

/-- A frame start of a monitored face: its starting beat shows the face with its causes as they were or as they are
after a completion that is taken at once. -/
theorem pixelRead_of_start {s : State} (hin : s.InboxOk) {f : Fin 8} (hm : s.monitored f = true) {b : Buffer} {l : Nat}
    (hb : s.faces[f].scan.isStart b l = true) (z : Fin 16) (w : Word) :
    let y := s.faces[f]
    let rs := s.scanRecords f b ++ s.excursionRecord f
    let after := causesAfter s.inbox rs y.pixel.frameOpen s.policy.active.cleanFrames y.causes
    ∃ (c : CauseState) (n : Nat), (c = y.causes ∨ c = after) ∧
      s.pixelRead f b l z w =
        { s.startingBeat f
            (y.startsFrame b l s.time.stamp s.policy.active.stallWindow (s.policy.active.face f).aplLimit) c after
            (inboxAfter s.inbox f rs y.pixel.frameOpen) (s.policy.active.trim f z) w with choices := n } := by
  intro y rs after
  have hf : s.configured f = true := ((monitored_iff s f).mp hm).1
  have hread : s.pixelRead f b l z w = (s.startStallTimer f).startBeat f b l z w := by
    rw [State.pixelRead, hm, hb]
    rfl
  have hnotices : (s.startStallTimer f).startRecords f b ++ (s.startStallTimer f).scalerNotices f =
      completionNotices f rs y.pixel.frameOpen := by
    rw [startNotices_eq, records_startStallTimer, State.startStallTimer, modFace_get]
  rw [hread, State.startBeat]
  simp only [hnotices, frameStarted_startStallTimer, hand_then_scalePixel hin hf, scalePixel_then_hand hin hf]
  split
  · exact ⟨after, s.choices, .inr rfl, rfl⟩
  · split
    · exact ⟨after, _, .inr rfl, rfl⟩
    · exact ⟨y.causes, _, .inl rfl, rfl⟩

/-- Settles O27: the monitor, the scaler and what is handed over by the lemmas above, with the face's causes at the
starting beat either way. -/
theorem frameStart : Obligations.FrameStart := by
  intro s f b x line z w hcfg hmode hin hstart t y r flip dwell aIn aOut fApl q factor records causes leaves
  have hm : s.monitored f = true := (monitored_iff s f).mpr ⟨hcfg, hmode⟩
  have hb : y.scan.isStart b line = true := (isStart_iff y.scan b line).mpr hstart
  have hflip : y.scan.isFlip b = flip := isFlip_eq y.scan b
  have hrecords : s.scanRecords f b ++ s.excursionRecord f = records := by
    simp only [State.scanRecords, State.excursionRecord]
    rw [hflip]
    rfl
  let started := y.startsFrame b line s.time.stamp s.policy.active.stallWindow r.aplLimit
  let trim := s.policy.active.trim f z
  obtain ⟨c, n, hc, ht⟩ : ∃ (c : CauseState) (n : Nat), (c = y.causes ∨ c = causes) ∧
      t = { s.startingBeat f started c causes (inboxAfter s.inbox f records y.pixel.frameOpen) trim w with
        choices := n } := by
    have hread := pixelRead_of_start hin hm hb z w
    rw [hrecords] at hread
    exact hread
  have hface : t.faces[f] = { ({ started with causes := c } : FaceState).takeBeat trim w with causes := causes } := by
    rw [ht]
    exact startingBeat_face s f started c causes _ trim w
  have hscan : t.faces[f].scan = started.scan := (congrArg FaceState.scan hface).trans rfl
  rw [startsFrame_scan, hflip] at hscan
  let v := if y.mode = .blank ∨ c.blank ≠ [] then w &&& 0xC0000000#32 else scaleWord (factor * trim / 256) w
  have hshows : ({ started with causes := c } : FaceState).shows trim w = v := by
    have hfactor : started.pixel.factor = factor :=
      congrArg PixelState.factor (frameStart_eq y.pixel r.aplLimit (factorOf y.level.output))
    rw [shows_of_not_dark (by exact hmode), hfactor]
    rfl
  have hpixel : t.faces[f].pixel =
      { factor := factor, aplFactor := fApl, frameOpen := true, count := 1
        sumIn := pixelR w + pixelG w + pixelB w, sumOut := pixelR v + pixelG v + pixelB v
        aplIn := if y.pixel.frameOpen then aIn else y.pixel.aplIn
        aplOut := if y.pixel.frameOpen then aOut else y.pixel.aplOut
        frames := if y.pixel.frameOpen then y.pixel.frames + 1 else y.pixel.frames } := by
    rw [hface, FaceState.takeBeat, hshows]
    refine (frameStart_countBeat y.pixel r.aplLimit (factorOf y.level.output) w v).trans ?_
    rw [frameStart_eq]
    rfl
  have hleaves : leaves c := by
    refine ⟨?_, congrArg PixelState.sumOut hpixel⟩
    rw [ht]
    exact congrArg some hshows
  refine ⟨?_, congrArg FaceState.causes hface, hscan, congrArg PixelState.aplFactor hpixel,
    congrArg PixelState.factor hpixel, congrArg PixelState.frameOpen hpixel, congrArg PixelState.count hpixel,
    congrArg PixelState.sumIn hpixel, congrArg PixelState.aplIn hpixel, congrArg PixelState.aplOut hpixel,
    congrArg PixelState.frames hpixel, (congrArg FaceState.mode hface).trans rfl,
    (congrArg FaceState.level hface).trans rfl, fun g hg => ?_, ?_, ?_⟩
  · rcases hc with rfl | rfl
    · exact .inl hleaves
    · exact .inr hleaves
  · rw [ht]
    exact startingBeat_face_of_ne s hg started c causes _ trim w
  · rw [ht, List.append_assoc]
    rfl
  · rw [ht]
    rfl

end Sys2Proof.Machine
end

section
/-! SUPPORT. Tile status frames: the tile that byte 0 names, the record of a changed member, and what a good frame of a
configured face leaves behind (R137, R138, R140, R141, R143). -/

namespace Sys2Proof.Machine

/-! ### The bytes of a frame (9.1, 12.7) -/

theorem tileNumber_eq (b0 : Byte) : tileNumber b0 = Fin.ofNat 32 (b0.toNat % 32) := Fin.ext (by simp [tileNumber])

/-- The face and the tile of byte 0 are its high and low bits, so the tile index is the byte itself. -/
theorem tileIndex_eq (b0 : Byte) : tileIndex (tileFace b0) (tileNumber b0) = b0.toNat := by
  have hlt : b0.toNat < 256 := b0.isLt
  simp only [tileIndex, tileFace, tileNumber, Fin.val_ofNat]
  omega

theorem tileStatus_getLsbD (b1 : Byte) {k : Nat} (hk : k < 4) : (tileStatus b1).getLsbD k = b1.getLsbD k := by
  simp [tileStatus, hk]

/-! ### The records of a good frame (R141, R143) -/

/-- A member is handed over where its presence has changed: with its onset where it is now present, else its clear. -/
theorem memberRecord_eq (s : State) (index : Nat) (old : BitVec 4) (b1 o t : Byte) {k : Nat} (hk : k < 4) :
    s.memberRecord index k old (tileStatus b1) o t =
      if old.getLsbD k = b1.getLsbD k then []
      else [.record (s.mkRecord .tile index (16 + k) (if b1.getLsbD k then .onset else .clear) (tileValue k o t))] := by
  rw [State.memberRecord, tileStatus_getLsbD b1 hk]
  cases old.getLsbD k <;> cases b1.getLsbD k <;> rfl

theorem memberRecord_isRecord (s : State) (index k : Nat) (old new : BitVec 4) (o t : Byte) :
    ∀ n ∈ s.memberRecord index k old new o t, n.isRecord = true := by
  unfold State.memberRecord
  split
  · simp [Notice.isRecord]
  · exact isRecord_of_mem_ite

theorem tileRecords_isRecord (s : State) (index : Nat) (e : TileEntry) (st : BitVec 4) (o t : Byte) :
    ∀ n ∈ s.tileRecords index e st o t, n.isRecord = true := by
  have hmember (k : Nat) := memberRecord_isRecord s index k e.status st o t
  simp only [State.tileRecords, List.forall_mem_append]
  exact ⟨⟨⟨⟨isRecord_of_mem_ite, hmember 0⟩, hmember 1⟩, hmember 2⟩, hmember 3⟩

/-! ### What a frame does to the part -/

/-- A good frame of a configured face sets its entry, and its records wait (R141). -/
theorem goodTile_eq {s : State} (h : s.InboxOk) (f : Fin 8) (i : Fin 32) (st : BitVec 4) (o t : Byte) :
    s.goodTile f i st o t =
      { s.setTile f i
          { heard := true, status := st, openCount := o, temp := t, silent := false
            timer := .running s.policy.active.silentTimeout } with
        inbox := s.inbox ++ s.tileRecords (tileIndex f i) s.tiles.entries[f][i] st o t } :=
  hand_of_isRecord (s := s.setTile f i _) h (tileRecords_isRecord s _ _ st o t)

/-- A link error is a saturating count, here as a minimum (R137, R138). -/
theorem linkError_eq {s : State} (h : s.tiles.errors ≤ max16) :
    s.linkError = { s with tiles := { s.tiles with errors := min max16 (s.tiles.errors + 1) } } := by
  rw [State.linkError, satInc_eq_min h]

/-- A discarded frame is a saturating count, here as a minimum (R140). -/
theorem discardTile_eq {s : State} (h : s.tiles.discarded ≤ max16) :
    s.discardTile = { s with tiles := { s.tiles with discarded := min max16 (s.tiles.discarded + 1) } } := by
  rw [State.discardTile, satInc_eq_min h]

/-- A frame out of reset is a link error, or discarded, or taken by the entry of its tile (R138, R140, R141). -/
theorem exec_tileFrameArrival {s : State} (hr : s.inReset = false) (b0 b1 b2 b3 b4 : Byte) :
    exec (.tileFrameArrival b0 b1 b2 b3 b4) s =
      .next (if tileGood b0 b1 b2 b3 b4 = false then s.linkError
        else if s.configured (tileFace b0) = false then s.discardTile
        else s.goodTile (tileFace b0) (tileNumber b0) (tileStatus b1) b2 b3) :=
  congrArg _ ((if_neg (by simp [hr])).trans (if_congr (by simp) rfl (if_congr (by simp) rfl rfl)))

/-- Settles O47: a frame that is not good or has no configured face only counts (`linkError_eq`, `discardTile_eq`), and
a good one sets its entry with its records behind what waits (`goodTile_eq`, `memberRecord_eq`). -/
theorem tileFrames : Obligations.TileFrames := by
  intro s b0 b1 b2 b3 b4 hr hin herr hdisc good f i e member linkError
  have hlink : s.linkError = linkError := linkError_eq herr
  have hframe : exec (.tileFrameArrival b0 b1 b2 b3 b4) s =
      .next (if good = false then s.linkError else if s.configured f = false then s.discardTile
        else s.goodTile f (tileNumber b0) (tileStatus b1) b2 b3) := exec_tileFrameArrival hr b0 b1 b2 b3 b4
  refine ⟨fun hb => ?_, congrArg _ ((if_neg (by simp [hr])).trans hlink), fun hg hc => ?_, fun hg hc => ?_⟩
  · rw [hframe, if_pos hb, hlink]
  · rw [hframe, if_neg (by simp [hg]), if_pos hc, discardTile_eq hdisc]
    rfl
  · have hindex : tileIndex f (tileNumber b0) = b0.toNat := tileIndex_eq b0
    rw [hframe, if_neg (by simp [hg]), if_neg (by simp [hc]), goodTile_eq hin, hindex, tileNumber_eq, State.tileRecords]
    simp (disch := decide) only [memberRecord_eq, ← List.append_assoc]
    rfl

end Sys2Proof.Machine
end

section
/-! SUPPORT. The cause sets of a face: what a record does to them, cause by cause, and to the clean-frame count
(R150, R151). -/

namespace Sys2Proof.Machine

/-! ### Causes of one class and source (10.3) -/

/-- A cause that a record of this class and source finds. -/
abbrev Cause.Hit (y : Cause) (cls src : Nat) : Prop := y.cls = cls ∧ y.src = src

theorem is_iff_hit (y : Cause) (cls src : Nat) : y.is cls src = true ↔ y.Hit cls src := by
  simp [Cause.is]

theorem hasCause_iff_hit (cs : List Cause) (cls src : Nat) :
    hasCause cs cls src = true ↔ ∃ y ∈ cs, y.Hit cls src := by
  simp only [hasCause, List.any_eq_true, is_iff_hit]

/-- The members of a set of which the causes that are hit have changed. -/
theorem mem_map_hit (cs : List Cause) (cls src : Nat) (g : Cause → Cause) (x : Cause) :
    x ∈ cs.map (fun y => if y.is cls src then g y else y) ↔
      (∃ y ∈ cs, ¬ y.Hit cls src ∧ x = y) ∨ ∃ y ∈ cs, y.Hit cls src ∧ x = g y := by
  simp only [List.mem_map, is_iff_hit]
  constructor
  · rintro ⟨y, hy, rfl⟩
    by_cases h : y.Hit cls src
    · exact .inr ⟨y, hy, h, if_pos h⟩
    · exact .inl ⟨y, hy, h, if_neg h⟩
  · rintro (⟨y, hy, h, rfl⟩ | ⟨y, hy, h, rfl⟩)
    · exact ⟨x, hy, if_neg h⟩
    · exact ⟨y, hy, if_pos h⟩

theorem mem_setCond (cs : List Cause) (cls src : Nat) (v : Bool) (x : Cause) :
    x ∈ setCond cs cls src v ↔
      (∃ y ∈ cs, ¬ y.Hit cls src ∧ x = y) ∨ ∃ y ∈ cs, y.Hit cls src ∧ x = { y with cond := v } :=
  mem_map_hit cs cls src _ x

/-- A strike changes the cause that is there, or adds one (R150). -/
theorem mem_strike (cs : List Cause) (cls src : Nat) (onset latch : Bool) (x : Cause) :
    x ∈ strike cs cls src onset latch ↔
      (∃ y ∈ cs, ¬ y.Hit cls src ∧ x = y) ∨
      (∃ y ∈ cs, y.Hit cls src ∧ x = { y with cond := onset || y.cond, latch := latch }) ∨
      ((∀ y ∈ cs, ¬ y.Hit cls src) ∧ x = { cls := cls, src := src, cond := onset, latch := latch }) := by
  unfold strike
  by_cases h : ∃ y ∈ cs, y.Hit cls src
  · have hno : ¬ ∀ y ∈ cs, ¬ y.Hit cls src := by simpa using h
    rw [if_pos ((hasCause_iff_hit cs cls src).mpr h), mem_map_hit, eq_false hno, false_and, or_false]
  · have hno : ∀ y ∈ cs, ¬ y.Hit cls src := fun y hy hhit => h ⟨y, hy, hhit⟩
    have hsame : (∃ y ∈ cs, ¬ y.Hit cls src ∧ x = y) ↔ x ∈ cs :=
      ⟨fun ⟨y, hy, _, hx⟩ => hx ▸ hy, fun hx => ⟨x, hx, hno x hx, rfl⟩⟩
    have hnone : ¬ ∃ y ∈ cs, y.Hit cls src ∧ x = { y with cond := onset || y.cond, latch := latch } :=
      fun ⟨y, hy, hhit, _⟩ => hno y hy hhit
    rw [if_neg (mt (hasCause_iff_hit cs cls src).mp h), List.mem_append, List.mem_singleton, hsame, eq_false hnone,
      eq_true hno, false_or, true_and]

/-- Changing a condition leaves the class and the source of every cause. -/
theorem hasCause_setCond (cs : List Cause) (cls src : Nat) (v : Bool) :
    hasCause (setCond cs cls src v) cls src = hasCause cs cls src := by
  rw [hasCause, hasCause, setCond, List.any_map]
  congr 1
  funext y
  rw [Function.comp_apply]
  split <;> rfl

theorem setCond_of_not_hasCause {cs : List Cause} {cls src : Nat} (h : ¬ hasCause cs cls src = true) (v : Bool) :
    setCond cs cls src v = cs := by
  rw [hasCause_iff_hit] at h
  have hsame : ∀ y ∈ cs, (if y.is cls src then { y with cond := v } else y) = id y := fun y hy =>
    if_neg fun hhit => h ⟨y, hy, (is_iff_hit y cls src).mp hhit⟩
  exact (List.map_congr_left hsame).trans (List.map_id cs)

/-- The strike of an onset makes the condition true by itself. -/
theorem strike_setCond (cs : List Cause) (cls src : Nat) (latch : Bool) :
    strike (setCond cs cls src true) cls src true latch = strike cs cls src true latch := by
  unfold strike
  rw [hasCause_setCond]
  by_cases h : hasCause cs cls src = true
  · rw [if_pos h, if_pos h, setCond, List.map_map]
    refine List.map_congr_left fun y _ => ?_
    by_cases hy : y.is cls src = true
    · simp only [Function.comp_apply, if_pos hy, Bool.true_or]
      exact if_pos hy
    · simp only [Function.comp_apply, if_neg hy]
  · rw [if_neg h, if_neg h, setCond_of_not_hasCause h]

/-! ### Either set of a face -/

/-- The blank set, or the derate set. -/
def CauseState.part (c : CauseState) (own : Bool) : List Cause := if own then c.blank else c.derate

/-- The action that strikes the blank set, or the derate set (R150). -/
def partAction (own : Bool) : Action := if own then .blank else .derate

section
variable (c : CauseState) (cls src : Nat) (act : Action) (latch own : Bool)

theorem part_struck (onset : Bool) :
    (c.struck cls src act onset latch).part own =
      if act = partAction own then strike (c.part own) cls src onset latch else c.part own := by
  cases own <;> cases act <;> rfl

theorem part_onset : (c.onset cls src).part own = setCond (c.part own) cls src true := by
  cases own <;> rfl

theorem part_take_onset :
    (c.take cls src .onset act latch).part own =
      if act = partAction own then strike (c.part own) cls src true latch else setCond (c.part own) cls src true := by
  rw [CauseState.take, part_struck, part_onset, strike_setCond]

theorem part_take_occurrence :
    (c.take cls src .occurrence act latch).part own =
      if act = partAction own then strike (c.part own) cls src false latch else c.part own :=
  part_struck c cls src act latch own false

theorem part_take_clear : (c.take cls src .clear act latch).part own = setCond (c.part own) cls src false := by
  cases own <;> rfl

/-- A strike sets the clean count to 0 (R150). -/
theorem struck_clean (onset : Bool) :
    (c.struck cls src act onset latch).clean = if act = .blank ∨ act = .derate then 0 else c.clean := by
  cases act <;> rfl

/-- An onset that finds its cause sets the clean count to 0 (R150). -/
theorem onset_clean :
    (c.onset cls src).clean = if ∃ y ∈ c.blank ++ c.derate, y.Hit cls src then 0 else c.clean := by
  refine if_congr ?_ rfl rfl
  rw [Bool.or_eq_true, hasCause_iff_hit, hasCause_iff_hit]
  simp only [List.mem_append, or_and_right, exists_or]

theorem struck_of_other (hb : act ≠ .blank) (hd : act ≠ .derate) (onset : Bool) :
    c.struck cls src act onset latch = c := by
  cases act with
  | none => rfl
  | report => rfl
  | derate => exact absurd rfl hd
  | blank => exact absurd rfl hb

variable (x : Cause)

theorem mem_part_onset :
    x ∈ (c.take cls src .onset act latch).part own ↔
      (∃ y ∈ c.part own, ¬ y.Hit cls src ∧ x = y) ∨
      (∃ y ∈ c.part own, y.Hit cls src ∧
        x = { y with cond := true, latch := if act = partAction own then latch else y.latch }) ∨
      (act = partAction own ∧ (∀ y ∈ c.part own, ¬ y.Hit cls src) ∧
        x = { cls := cls, src := src, cond := true, latch := latch }) := by
  rw [part_take_onset]
  by_cases h : act = partAction own
  · simp only [h, if_true, true_and, mem_strike, Bool.true_or]
  · simp only [h, if_false, false_and, or_false, mem_setCond]

theorem mem_part_occurrence :
    x ∈ (c.take cls src .occurrence act latch).part own ↔
      (∃ y ∈ c.part own, ¬ y.Hit cls src ∧ x = y) ∨
      (∃ y ∈ c.part own, y.Hit cls src ∧
        x = { y with latch := if act = partAction own then latch else y.latch }) ∨
      (act = partAction own ∧ (∀ y ∈ c.part own, ¬ y.Hit cls src) ∧
        x = { cls := cls, src := src, cond := false, latch := latch }) := by
  rw [part_take_occurrence]
  by_cases h : act = partAction own
  · simp only [h, if_true, true_and, mem_strike, Bool.false_or]
  · simp only [h, if_false, false_and, or_false]
    refine ⟨fun hx => ?_, ?_⟩
    · by_cases hhit : x.Hit cls src
      · exact .inr ⟨x, hx, hhit, rfl⟩
      · exact .inl ⟨x, hx, hhit, rfl⟩
    · rintro (⟨y, hy, -, rfl⟩ | ⟨y, hy, -, rfl⟩) <;> exact hy

theorem take_onset_clean :
    (c.take cls src .onset act latch).clean =
      if act = .blank ∨ act = .derate ∨ ∃ y ∈ c.blank ++ c.derate, y.Hit cls src then 0 else c.clean := by
  rw [CauseState.take, struck_clean, onset_clean]
  by_cases h : act = .blank ∨ act = .derate
  · rw [if_pos h, if_pos (or_assoc.mp (.inl h))]
  · rw [if_neg h]
    exact if_congr (by rw [← or_assoc, eq_false h, false_or]) rfl rfl

end

/-- Settles O49: either set after a record is its strike or its change of conditions, whose members `mem_strike` and
`mem_setCond` give; the clean count by `take_onset_clean` and `struck_clean`. -/
theorem causeRules : Obligations.CauseRules := by
  intro c cls src latch act x own set mine hit present
  have hclear : x ∈ set (c.take cls src .clear act latch) ↔
      (∃ y ∈ set c, ¬ hit y ∧ x = y) ∨ ∃ y ∈ set c, hit y ∧ x = { y with cond := false } := by
    change x ∈ (c.take cls src .clear act latch).part own ↔ _
    rw [part_take_clear, mem_setCond]
    rfl
  refine ⟨mem_part_onset c cls src act latch own x, mem_part_occurrence c cls src act latch own x, hclear,
    take_onset_clean c cls src act latch, struck_clean c cls src act latch false, rfl,
    fun hb hd => struck_of_other c cls src act latch hb hd false⟩

end Sys2Proof.Machine
end

section
/-! SUPPORT. The FAULT line (R155), and RECORD: the record that is taken and what waits behind it (R147 to R152, R157). -/

namespace Sys2Proof.Machine

/-! ### The FAULT line (R155) -/

theorem holds_iff (c : SlotCode) : c.holds = true ↔ c = .full ∨ c = .overrun := by
  cases c <;> simp [SlotCode.holds]

theorem any_eq_true_iff (c : CauseState) : c.any = true ↔ c.blank ≠ [] ∨ c.derate ≠ [] := by
  simp [CauseState.any]

theorem anySlot_iff (p : Report) (q : Slot → Bool) :
    p.slots.toList.any q = true ↔ ∃ k : Fin 32, q p.slots[k] = true := by
  simp [Vector.any_eq_true, Fin.exists_iff]

theorem anyFace_iff (q : Fin 8 → Bool) : allFaces.any q = true ↔ ∃ f : Fin 8, q f = true :=
  List.any_eq_true.trans ⟨fun ⟨f, _, h⟩ => ⟨f, h⟩, fun ⟨f, h⟩ => ⟨f, mem_allFaces f, h⟩⟩

theorem tracking_eq_false_iff (s : State) : s.tracking = false ↔ s.tracker.mode.source = .unknown := by
  simp [State.tracking, ModeImage.tracking]

theorem isConfigured_eq_false_iff (s : State) : s.isConfigured = false ↔ ∀ f : Fin 8, s.configured f = false := by
  simp [isConfigured_eq]

/-- Settles O52: the four terms of the line one by one; the values of reset assert it (`held_faultLine`). -/
theorem faultLine : Obligations.FaultLine := by
  refine fun s => ⟨?_, fun hr hheld => ?_⟩
  · simp only [State.faultLine, Bool.or_eq_true, Bool.not_eq_true', anySlot_iff, anyFace_iff, holds_iff,
      Bool.and_eq_true, any_eq_true_iff, tracking_eq_false_iff, isConfigured_eq_false_iff, or_assoc]
  · rw [hheld hr]
    exact held_faultLine _ _ _ _

/-! ### What is no record (R147, R151, R152) -/

/-- What the causes of face f become by a notice that is no record. -/
def CauseState.told (f : Fin 8) (configured : Bool) (cleanFrames : Nat) (c : CauseState) : Notice → CauseState
  | .record _ => c
  | .completion g => if g = f ∧ configured = true then c.completed cleanFrames else c
  | .stallEnded g => if g = f then c.ended clsScanStall f.val else c

theorem told_completion (f g : Fin 8) (b : Bool) (n : Nat) (c : CauseState) :
    c.told f b n (.completion g) = if g = f ∧ b = true then c.completed n else c := rfl

theorem told_stallEnded (f g : Fin 8) (b : Bool) (n : Nat) (c : CauseState) :
    c.told f b n (.stallEnded g) = if g = f then c.ended clsScanStall f.val else c := rfl

theorem modFace_get_of_ne (s : State) {f g : Fin 8} (h : g ≠ f) (u : FaceState → FaceState) :
    (s.modFace g u).faces[f] = s.faces[f] := by
  simp [Fin.val_ne_of_ne h]

theorem takeCompletion_causes (s : State) (g f : Fin 8) :
    (s.takeCompletion g).faces[f].causes =
      s.faces[f].causes.told f (s.configured f) s.policy.active.cleanFrames (.completion g) := by
  rw [told_completion, State.takeCompletion]
  by_cases hgf : g = f
  · subst hgf
    by_cases hc : s.configured g = true
    · rw [if_pos hc, if_pos ⟨rfl, hc⟩, modFace_get]
    · rw [if_neg hc, if_neg fun h => hc h.2]
  · rw [if_neg fun h : g = f ∧ _ => hgf h.1]
    split
    · rw [modFace_get_of_ne s hgf]
    · rfl

theorem takeStallEnded_causes (s : State) (g f : Fin 8) :
    (s.takeStallEnded g).faces[f].causes =
      s.faces[f].causes.told f (s.configured f) s.policy.active.cleanFrames (.stallEnded g) := by
  rw [told_stallEnded, State.takeStallEnded]
  by_cases hgf : g = f
  · subst hgf
    rw [if_pos rfl, modFace_get]
  · rw [if_neg hgf, modFace_get_of_ne s hgf]

/-- What stands in front of the next record is taken in order, and the rest waits. -/
theorem drain_told (told rest : List Notice) (s : State) (htold : ∀ n ∈ told, n.isRecord = false)
    (hrest : ∀ n ∈ rest.head?, n.isRecord = true) (f : Fin 8) :
    (s.drain (told ++ rest)).inbox = rest ∧
      (s.drain (told ++ rest)).faces[f].causes =
        told.foldl (CauseState.told f (s.configured f) s.policy.active.cleanFrames) s.faces[f].causes := by
  induction told generalizing s with
  | nil =>
    rw [List.nil_append, drain_of_record_first s rest hrest]
    exact ⟨rfl, rfl⟩
  | cons n told ih =>
    obtain ⟨hn, htail⟩ := List.forall_mem_cons.mp htold
    cases n with
    | record r => simp [Notice.isRecord] at hn
    | completion g =>
      obtain ⟨hinbox, hcauses⟩ := ih (s.takeCompletion g) htail
      refine ⟨hinbox, hcauses.trans ?_⟩
      rw [takeCompletion_causes, takeCompletion_frame]
      rfl
    | stallEnded g =>
      obtain ⟨hinbox, hcauses⟩ := ih (s.takeStallEnded g) htail
      refine ⟨hinbox, hcauses.trans ?_⟩
      rw [takeStallEnded_causes]
      rfl

/-! ### The record itself (R148, R149, R157) -/

theorem cls_eq (r : Record) : r.cls = Fin.ofNat 32 (r.key.toNat % 32) := Fin.ext (by simp [Record.cls])

theorem append_eq {p : Report} (h : p.drop ≤ 65535) (r : Record) :
    p.append r =
      if p.queue.length < 16 then { p with queue := p.queue ++ [r] } else { p with drop := min 65535 (p.drop + 1) } := by
  rw [Report.append, max16, satInc_eq_min h]

theorem takeRecord_report (s : State) (r : Record) :
    (s.takeRecord r).report = if s.policy.active.action r.cls = .none then s.report else s.report.append r := by
  simp only [State.takeRecord]
  split <;> rfl

/-- The faces that a record affects, by the code of its source kind (R149). -/
theorem affected_iff (s : State) (r : Record) (f : Fin 8) :
    s.affected r f = true ↔
      s.configured f = true ∧
        (r.kind = 1 ∧ r.src = f.val ∨ r.kind = 3 ∧ r.src / 32 = f.val ∨
          r.kind = 2 ∧ (s.policy.active.face f).sensorMask.getLsbD r.src = true) := by
  rw [State.affected, Bool.and_eq_true]
  refine and_congr_right fun _ => ?_
  by_cases h1 : r.kind = 1
  · simp [h1, SourceKind.code]
  · by_cases h3 : r.kind = 3
    · simp [h3, SourceKind.code]
    · by_cases h2 : r.kind = 2
      · simp [h2, SourceKind.code]
      · simp [h1, h2, h3, SourceKind.code]

theorem choice_of_writing {p : Report} (h : p.writer.isSome = true) : p.choice = p := by
  obtain ⟨w, hw⟩ := Option.isSome_iff_exists.mp h
  rw [Report.choice, hw]

/-- A RECORD that finds a record waiting. -/
theorem exec_record {s : State} (hr : s.inReset = false) {r : Record} {ns : List Notice}
    (hin : s.inbox = .record r :: ns) :
    exec .record s = .next (((s.takeRecord r).modReport Report.choice).drain ns) := by
  refine congrArg _ ((if_neg (by simp [hr])).trans ?_)
  rw [hin]

theorem takeRecord_writer (s : State) (r : Record) : (s.takeRecord r).report.writer = s.report.writer := by
  rw [takeRecord_report]
  split
  · rfl
  · rw [append_frame]

/-- A record changes the faces and the Report Block alone, so that it does not show where these are set afterwards. -/
theorem takeRecord_with (s : State) (r : Record) (fs : Vector FaceState 8) (ns : List Notice) (p : Report) :
    { s.takeRecord r with faces := fs, inbox := ns, report := p } = { s with faces := fs, inbox := ns, report := p } :=
  congrArg (fun u : State => { u with faces := fs, inbox := ns, report := p }) (takeRecord_frame s r)

theorem takeRecord_policy (s : State) (r : Record) : (s.takeRecord r).policy = s.policy := by
  rw [takeRecord_frame]

theorem takeRecord_configured (s : State) (r : Record) (f : Fin 8) :
    (s.takeRecord r).configured f = s.configured f := by
  rw [takeRecord_frame]
  rfl

theorem after_choice {s : State} (hr : s.inReset = false) : s.after .choice = s.modReport Report.choice :=
  if_neg (by simp [hr])

/-- Settles O48: the record by `takeRecord_report`, `takeRecord_causes` and `affected_iff`, and what waits behind it by
`drain_told`. -/
theorem recordTaken : Obligations.RecordTaken := by
  intro s r told rest hr hin htold hrest hdrop
  let u := (s.takeRecord r).modReport Report.choice
  refine ⟨u.drain (told ++ rest), exec_record hr hin, ?_⟩
  intro cls src kind act latch joined
  have hact : s.policy.active.action r.cls = act := congrArg _ (cls_eq r)
  have hlatch : s.policy.active.latch r.cls = latch := congrArg _ (cls_eq r)
  have hjoined : (s.takeRecord r).report = joined := by
    rw [takeRecord_report, append_eq hdrop, hact]
  have hreport : (u.drain (told ++ rest)).report = joined.choice := by
    rw [drain_frame, ← hjoined]
    rfl
  refine ⟨(drain_told told rest u htold hrest 0).1, ?_, fun hw => ?_, fun f => ?_, ?_⟩
  · exact hreport.trans (congrArg State.report (after_choice (s := { s with report := joined }) hr)).symm
  · rw [hreport, choice_of_writing]
    rwa [← hjoined, takeRecord_writer]
  · intro hit ended tell
    have htell : CauseState.told f (s.configured f) s.policy.active.cleanFrames = tell := by
      funext c n
      cases n with
      | record q => rfl
      | completion g => rfl
      | stallEnded g =>
        exact if_congr Iff.rfl (congrArg₂ (fun b d => ({ c with blank := b, derate := d } : CauseState))
          (setCond_scanStall f c.blank) (setCond_scanStall f c.derate)) rfl
    have hface : u.faces[f] = { s.faces[f] with causes := u.faces[f].causes } := takeRecord_face s r f
    have hcauses : u.faces[f].causes =
        if hit then s.faces[f].causes.take cls src r.event act latch else s.faces[f].causes := by
      refine (takeRecord_causes s r f).trans (if_congr (affected_iff s r f) ?_ rfl)
      rw [hact, hlatch]
      rfl
    have hconfigured : u.configured f = s.configured f := takeRecord_configured s r f
    have hpolicy : u.policy = s.policy := takeRecord_policy s r
    rw [drain_face, (drain_told told rest u htold hrest f).2, hconfigured, hpolicy, htell, hface, hcauses]
  · exact (drain_frame (told ++ rest) u).trans
      ((takeRecord_with s r _ _ u.report).trans (by rw [drain_frame]))

end Sys2Proof.Machine
end

section
/-! SUPPORT. The Report Block by itself: what each of its operations does to the queue, the slots, the writer and the
lock, and that each of them keeps `Report.Ok` (R157 to R163, R167). -/

namespace Sys2Proof.Machine

/-! ### One slot (R158 to R162) -/

theorem slots_set_self (v : Vector Slot 32) (k : Fin 32) (x : Slot) : (v.set k x)[k] = x := by simp

theorem slots_set_of_ne (v : Vector Slot 32) {k j : Fin 32} (h : j ≠ k) (x : Slot) : (v.set k x)[j] = v[j] := by
  have hne : k.val ≠ j.val := fun he => h (Fin.ext he.symm)
  simp [hne]

/-- A slot that is neither INACTIVE nor BUSY may be chosen (R159). -/
theorem Slot.Ok.busy {x : Slot} (h : x.Ok) (hi : x.code ≠ .inactive) (hb : x.code ≠ .busy) : x.busy.Ok := by
  obtain ⟨-, -, hle, -⟩ := h
  refine ⟨rfl, fun h0 => absurd rfl h0, Nat.zero_le _, rfl, fun g hg => ?_⟩
  obtain rfl : _ = g := Option.some.inj hg
  refine ⟨?_, hle⟩
  cases hc : x.code <;> simp_all

/-- A BUSY slot keeps the code and the count it was chosen with (11.2). -/
theorem Slot.Ok.former {x : Slot} (h : x.Ok) (hb : x.code = .busy) : ∃ g, x.former = some g := by
  obtain ⟨-, -, -, hformer, -⟩ := h
  exact Option.isSome_iff_exists.mp (hformer.trans (by rw [hb]; rfl))

/-- The write end by the code the slot had: one that held a record is OVERRUN and counts it as overwritten (R160). -/
theorem Slot.Ok.written_eq {x : Slot} (h : x.Ok) {g : Former} (hg : x.former = some g) (r : Record) :
    x.written r =
      { x with
        code := if g.code = .empty then .full else .overrun
        former := none, record := some r
        overwrites := if g.code = .empty then 0 else min 255 (g.overwrites + 1) } := by
  obtain ⟨-, -, -, -, hkept⟩ := h
  obtain ⟨hcode, hle⟩ := hkept g hg
  obtain ⟨c, n⟩ := g
  have hcount : satInc 255 n = min 255 (n + 1) := satInc_eq_min hle
  rcases hcode with rfl | rfl | rfl
  · simp [Slot.written, hg]
  · simp [Slot.written, hg, hcount]
  · simp [Slot.written, hg, hcount]

theorem Slot.Ok.written {x : Slot} (h : x.Ok) (hb : x.code = .busy) (r : Record) :
    (x.written r).Ok ∧ (x.written r).code ≠ .busy := by
  obtain ⟨g, hg⟩ := h.former hb
  rw [h.written_eq hg r]
  by_cases he : g.code = .empty <;> simp [Slot.Ok, he, SlotCode.holds]

/-- A slot that is not BUSY may be emptied or made INACTIVE (R161). -/
theorem Slot.Ok.clearedTo {x : Slot} (h : x.Ok) (hb : x.code ≠ .busy) {c : SlotCode}
    (hc : c = .empty ∨ c = .inactive) : (x.clearedTo c).Ok := by
  obtain ⟨-, -, -, hformer, -⟩ := h
  have hf : x.former = none := Option.not_isSome_iff_eq_none.mp (by simp [hformer, hb])
  rcases hc with rfl | rfl <;> simp [Slot.Ok, Slot.clearedTo, hf, SlotCode.holds]

/-! ### The whole block -/

/-- What `Report.Ok` says but for the queue of an IDLE writer: between a record's joining the queue and the choice that
it calls for, the queue of an IDLE writer holds a record (R157, R159). -/
structure Report.Sound (p : Report) : Prop where
  queue : p.queue.length ≤ 16
  drop : p.drop ≤ max16
  slot : ∀ k : Fin 32, p.slots[k].Ok
  busy : ∀ k : Fin 32, p.slots[k].code = .busy ↔ p.writer.map (·.2) = some k
  lock : ∀ k ∈ p.lock, p.slots[k].code.holds = true

theorem report_ok_iff (p : Report) : p.Ok ↔ p.Sound ∧ (p.writer = none → p.queue = []) :=
  ⟨fun ⟨hqueue, hidle, hdrop, hslot, hbusy, hlock⟩ => ⟨⟨hqueue, hdrop, hslot, hbusy, hlock⟩, hidle⟩,
    fun ⟨h, hidle⟩ => ⟨h.queue, hidle, h.drop, h.slot, h.busy, h.lock⟩⟩

theorem Report.Ok.sound {p : Report} (h : p.Ok) : p.Sound := ((report_ok_iff p).mp h).1

theorem Report.Ok.idle {p : Report} (h : p.Ok) : p.writer = none → p.queue = [] := ((report_ok_iff p).mp h).2

/-- The writer's slot is BUSY (R159). -/
theorem Report.Sound.busy_of_writing {p : Report} (h : p.Sound) {r : Record} {k : Fin 32}
    (hw : p.writer = some (r, k)) : p.slots[k].code = .busy := (h.busy k).mpr (by rw [hw]; rfl)

/-- A locked slot is not BUSY (R159, R163). -/
theorem Report.Sound.not_busy_of_locked {p : Report} (h : p.Sound) {k : Fin 32} (hl : p.lock = some k) :
    p.slots[k].code ≠ .busy := fun hb => by
  have hh := h.lock k hl
  rw [hb] at hh
  exact Bool.noConfusion hh

/-- Where slots and writer stand, only the queue, the drop count and the lock are to be looked at. -/
theorem Report.Sound.of_slots {p q : Report} (h : p.Sound) (hslots : q.slots = p.slots) (hwriter : q.writer = p.writer)
    (hqueue : q.queue.length ≤ 16) (hdrop : q.drop ≤ max16)
    (hlock : ∀ k ∈ q.lock, p.slots[k].code.holds = true) : q.Sound where
  queue := hqueue
  drop := hdrop
  slot := by rw [hslots]; exact h.slot
  busy := by rw [hslots, hwriter]; exact h.busy
  lock := by rw [hslots]; exact hlock

/-- One slot changed, with the writer and the lock following it. -/
theorem Report.Sound.of_setSlot {p q : Report} (h : p.Sound) {k : Fin 32} {x : Slot} (hx : x.Ok)
    (hslots : q.slots = p.slots.set k x) (hqueue : q.queue.length ≤ 16) (hdrop : q.drop ≤ max16)
    (hbusy : x.code = .busy ↔ q.writer.map (·.2) = some k)
    (hothers : ∀ j, j ≠ k → (q.writer.map (·.2) = some j ↔ p.writer.map (·.2) = some j))
    (hlock : ∀ j ∈ q.lock, j ∈ p.lock ∧ (j = k → x.code.holds = true)) : q.Sound where
  queue := hqueue
  drop := hdrop
  slot j := by
    rw [hslots]
    by_cases hj : j = k
    · rw [hj, slots_set_self]; exact hx
    · rw [slots_set_of_ne _ hj]; exact h.slot j
  busy j := by
    rw [hslots]
    by_cases hj : j = k
    · rw [hj, slots_set_self]; exact hbusy
    · rw [slots_set_of_ne _ hj, hothers j hj]; exact h.busy j
  lock j hjl := by
    obtain ⟨hp, hxk⟩ := hlock j hjl
    rw [hslots]
    by_cases hj : j = k
    · rw [hj, slots_set_self]; exact hxk hj
    · rw [slots_set_of_ne _ hj]; exact h.lock j hp

/-! ### The queue and the choice (R157, R159) -/

theorem Report.Sound.append {p : Report} (h : p.Sound) (r : Record) : (p.append r).Sound := by
  have hdrop : (p.append r).drop ≤ max16 := by
    unfold Report.append
    split
    · exact h.drop
    · exact satInc_le h.drop
  refine h.of_slots ?_ ?_ (append_length p r h.queue) hdrop ?_ <;> rw [append_frame]
  exact h.lock

theorem candidate_iff (p : Report) (r : Record) (k : Fin 32) :
    p.candidate r k = true ↔
      p.slots[k].fits r = true ∧ p.slots[k].code ≠ .inactive ∧ p.slots[k].code ≠ .busy ∧ p.lock ≠ some k := by
  simp [Report.candidate, and_assoc]

/-- What a choice among some records can do: drop them all, or drop those in front of one that takes a slot (R159). -/
theorem chooseFrom_cases (p : Report) (rs : List Record) :
    ∃ d, (p.drop ≤ max16 → d ≤ max16) ∧
      (p.chooseFrom rs = { p with queue := [], drop := d } ∨
        ∃ r k rest, rest.length ≤ rs.length ∧ p.candidate r k = true ∧
          p.chooseFrom rs =
            { p with queue := rest, drop := d, writer := some (r, k), slots := p.slots.set k p.slots[k].busy }) := by
  induction rs generalizing p with
  | nil => exact ⟨p.drop, id, .inl rfl⟩
  | cons r rs ih =>
    cases hk : p.chosen r with
    | some k =>
      refine ⟨p.drop, id, .inr ⟨r, k, rs, Nat.le_succ _, chosen_candidate hk, ?_⟩⟩
      simp only [Report.chooseFrom, hk]
    | none =>
      obtain ⟨d, hd, hcases⟩ := ih { p with drop := satInc max16 p.drop }
      simp only [Report.chooseFrom, hk]
      refine ⟨d, fun h => hd (satInc_le h), hcases.imp_right ?_⟩
      rintro ⟨q, k, rest, hlen, hcand, heq⟩
      exact ⟨q, k, rest, Nat.le_succ_of_le hlen, hcand, heq⟩

theorem choice_of_idle {p : Report} (h : p.writer = none) : p.choice = p.chooseFrom p.queue := by
  rw [Report.choice, h]

/-- The choice that is called for is made; it leaves no record waiting with the writer IDLE (R159). -/
theorem Report.Sound.choice {p : Report} (h : p.Sound) : p.choice.Ok := by
  refine (report_ok_iff _).mpr ⟨?_, choice_idle p⟩
  cases hw : p.writer with
  | some w => rwa [choice_of_writing (by rw [hw]; rfl)]
  | none =>
    rw [choice_of_idle hw]
    obtain ⟨d, hd, heq | ⟨r, k, rest, hlen, hcand, heq⟩⟩ := chooseFrom_cases p p.queue <;> rw [heq]
    · exact h.of_slots rfl rfl (Nat.zero_le _) (hd h.drop) h.lock
    · obtain ⟨-, hi, hb, hl⟩ := (candidate_iff p r k).mp hcand
      refine h.of_setSlot ((h.slot k).busy hi hb) rfl (hlen.trans h.queue) (hd h.drop) (by simp [Slot.busy])
        (fun j hj => ?_) fun j hj => ⟨hj, ?_⟩
      · simp [hw, Ne.symm hj]
      · rintro rfl
        exact absurd hj hl

/-- The record of a slot after a choice is the one it held, or is gone with the slot's choice (R159). -/
theorem choice_record (p : Report) (k : Fin 32) :
    p.choice.slots[k].record = p.slots[k].record ∨ p.choice.slots[k].record = none := by
  cases hw : p.writer with
  | some w => exact .inl (by rw [choice_of_writing (by rw [hw]; rfl)])
  | none =>
    rw [choice_of_idle hw]
    obtain ⟨d, -, heq | ⟨r, j, rest, -, -, heq⟩⟩ := chooseFrom_cases p p.queue <;> rw [heq]
    · exact .inl rfl
    · by_cases hk : k = j
      · exact .inr (by rw [hk, slots_set_self]; rfl)
      · exact .inl (by rw [slots_set_of_ne _ hk])

/-- The write end fills the writer's slot, and the next choice follows (R160). -/
theorem Report.Ok.writeEnd {p : Report} (h : p.Ok) : p.writeEnd.Ok := by
  cases hw : p.writer with
  | none => rwa [Report.writeEnd, hw]
  | some w =>
    obtain ⟨r, k⟩ := w
    obtain ⟨hx, hb⟩ := (h.sound.slot k).written (h.sound.busy_of_writing hw) r
    simp only [Report.writeEnd, hw]
    refine Report.Sound.choice (h.sound.of_setSlot hx rfl h.sound.queue h.sound.drop
      ⟨fun hbusy => absurd hbusy hb, fun hk => (nomatch hk)⟩ (fun j hj => ?_) fun j hj => ⟨hj, ?_⟩)
    · simp [hw, Ne.symm hj]
    · rintro rfl
      exact absurd (h.sound.busy_of_writing hw) (h.sound.not_busy_of_locked hj)

/-- A locked slot is neither the one that is filled nor one that is chosen. -/
theorem writeEnd_record {p : Report} (h : p.Ok) {k : Fin 32} (hl : p.lock = some k) :
    p.writeEnd.slots[k].record = p.slots[k].record ∨ p.writeEnd.slots[k].record = none := by
  cases hw : p.writer with
  | none => exact .inl (by rw [Report.writeEnd, hw])
  | some w =>
    obtain ⟨r, j⟩ := w
    have hne : k ≠ j := by
      rintro rfl
      exact h.sound.not_busy_of_locked hl (h.sound.busy_of_writing hw)
    simp only [Report.writeEnd, hw]
    have hc := choice_record { p with writer := none, slots := p.slots.set j (p.slots[j].written r) } k
    rwa [slots_set_of_ne _ hne] at hc

/-! ### The host's writes and reads (R161 to R163) -/

/-- What a whole header write can do: nothing, or empty or deactivate a slot that is not BUSY (R161). -/
theorem headerWrite_cases (p : Report) (k : Fin 32) (c : Nat) :
    p.headerWrite k c = p ∨
      ∃ e, (e = .empty ∨ e = .inactive) ∧ p.slots[k].code ≠ .busy ∧
        p.headerWrite k c = { p with slots := p.slots.set k (p.slots[k].clearedTo e), lock := unlock p.lock k } := by
  unfold Report.headerWrite
  split
  · exact .inl rfl
  · rename_i hb
    split
    · split
      · exact .inl rfl
      · exact .inr ⟨.empty, .inl rfl, hb, rfl⟩
    · split
      · exact .inr ⟨.inactive, .inr rfl, hb, rfl⟩
      · exact .inl rfl

theorem mem_unlock {l : Option (Fin 32)} {k j : Fin 32} (h : j ∈ unlock l k) : j ∈ l ∧ j ≠ k := by
  unfold unlock at h
  split at h
  · exact nomatch h
  · rename_i hne
    exact ⟨h, fun he => hne (he ▸ h)⟩

theorem Report.Sound.headerWrite {p : Report} (h : p.Sound) (k : Fin 32) (c : Nat) : (p.headerWrite k c).Sound := by
  obtain heq | ⟨e, he, hb, heq⟩ := headerWrite_cases p k c <;> rw [heq]
  · exact h
  · have hnot : ¬ p.writer.map (·.2) = some k := fun hw => hb ((h.busy k).mpr hw)
    refine h.of_setSlot ((h.slot k).clearedTo hb he) rfl h.queue h.drop ⟨fun hbusy => ?_, fun hw => absurd hw hnot⟩
      (fun _ _ => Iff.rfl) fun j hj => ⟨(mem_unlock hj).1, fun hjk => absurd hjk (mem_unlock hj).2⟩
    rcases he with rfl | rfl <;> exact SlotCode.noConfusion hbusy

theorem headerWrite_frame (p : Report) (k : Fin 32) (c : Nat) :
    p.headerWrite k c = { p with slots := (p.headerWrite k c).slots, lock := (p.headerWrite k c).lock } := by
  obtain heq | ⟨e, -, -, heq⟩ := headerWrite_cases p k c <;> rw [heq]

theorem headerWrite_record (p : Report) (k : Fin 32) (c : Nat) (j : Fin 32) :
    (p.headerWrite k c).slots[j].record = p.slots[j].record ∨ (p.headerWrite k c).slots[j].record = none := by
  obtain heq | ⟨e, -, -, heq⟩ := headerWrite_cases p k c <;> rw [heq]
  · exact .inl rfl
  · by_cases hj : j = k
    · exact .inr (by rw [hj, slots_set_self]; rfl)
    · exact .inl (by rw [slots_set_of_ne _ hj])

/-- A filter write changes the filter key and mask of one slot at most (R162). -/
theorem filterWrite_slot (p : Report) (k : Fin 32) (data : Word) (m : Mask) (j : Fin 32) :
    (p.filterWrite k data m).slots[j] =
      { p.slots[j] with
        filterKey := (p.filterWrite k data m).slots[j].filterKey
        filterMask := (p.filterWrite k data m).slots[j].filterMask } := by
  unfold Report.filterWrite
  split
  · by_cases hj : j = k
    · rw [hj, slots_set_self]; rfl
    · rw [slots_set_of_ne _ hj]
  · rfl

theorem filterWrite_frame (p : Report) (k : Fin 32) (data : Word) (m : Mask) :
    p.filterWrite k data m = { p with slots := (p.filterWrite k data m).slots } := by
  unfold Report.filterWrite
  split <;> rfl

theorem Report.Sound.filterWrite {p : Report} (h : p.Sound) (k : Fin 32) (data : Word) (m : Mask) :
    (p.filterWrite k data m).Sound where
  queue := by rw [filterWrite_frame]; exact h.queue
  drop := by rw [filterWrite_frame]; exact h.drop
  slot j := by rw [filterWrite_slot]; exact h.slot j
  busy j := by rw [filterWrite_slot, filterWrite_frame]; exact h.busy j
  lock j hj := by
    rw [filterWrite_frame] at hj
    rw [filterWrite_slot]
    exact h.lock j hj

/-- What a read can do to the lock: nothing, end it, or lock a slot that holds a record (R163). -/
theorem readLock_cases (p : Report) (off : Nat) :
    ∃ l, (∀ k ∈ l, k ∈ p.lock ∨ p.slots[k].code.holds = true) ∧ p.readLock off = { p with lock := l } := by
  unfold Report.readLock
  split
  · exact ⟨none, fun _ hk => (nomatch hk), rfl⟩
  · split
    · rename_i j _
      refine ⟨_, fun k hk => .inr ?_, rfl⟩
      split at hk
      · rename_i hh
        obtain rfl : j = k := Option.some.inj hk
        exact hh
      · exact nomatch hk
    · exact ⟨p.lock, fun _ => .inl, rfl⟩

theorem Report.Sound.readLock {p : Report} (h : p.Sound) (off : Nat) : (p.readLock off).Sound := by
  obtain ⟨l, hl, heq⟩ := readLock_cases p off
  rw [heq]
  exact h.of_slots rfl rfl h.queue h.drop fun k hk => (hl k hk).elim (h.lock k) id

theorem Report.Sound.restart {p : Report} (h : p.Sound) : p.restart.Sound :=
  h.of_slots rfl rfl (Nat.zero_le _) (Nat.zero_le _) fun _ hk => nomatch hk

theorem Report.reset_ok : Report.reset.Ok := by
  obtain ⟨-, -, -, -, -, -, -, -, h, -⟩ := resetStateMeetsTheInvariants
  exact h

end Sys2Proof.Machine
end

section
/-! SUPPORT. Every command and every step keeps the Report Block, and the record of a slot that stays locked (R157 to
R163, R167). The rule over all commands is said of the Report Block alone, which `EventRule` does not watch. -/

namespace Sys2Proof.Machine

/-! ### What leaves the Report Block -/

/-- The Report Block is as P says. -/
def State.ReportIs (P : Report → Prop) (s : State) : Prop := P s.report

namespace State.ReportIs

variable {P : Report → Prop} {s : State}

theorem of_eq {t : State} (hs : s.ReportIs P) (h : t.report = s.report) : t.ReportIs P := by
  rw [State.ReportIs, h]
  exact hs

theorem drain (hs : s.ReportIs P) (ns : List Notice) : (s.drain ns).ReportIs P := hs.of_eq (by rw [drain_frame])

theorem hand (hs : s.ReportIs P) (ns : List Notice) : (s.hand ns).ReportIs P := hs.drain _

theorem anomalyIf (hs : s.ReportIs P) (c : Bool) (k : Nat) : (s.anomalyIf c k).ReportIs P := of_ite (hs.hand _) hs

theorem access (hs : s.ReportIs P) (b : Fin 4) : (s.access b).ReportIs P := by
  rw [access_eq]
  refine ReportIs.anomalyIf ?_ _ 1
  exact (hs.anomalyIf _ 8).of_eq rfl

theorem takeRefresh (hs : s.ReportIs P) : s.takeRefresh.ReportIs P :=
  of_ite (of_eq (hs.hand _) (State.setTracker_report _ _)) hs

theorem takeSleep (hs : s.ReportIs P) : s.takeSleep.ReportIs P := (hs.anomalyIf s.tracker.anyOpen 5).of_eq rfl

theorem takeModeLoad (hs : s.ReportIs P) (c : ModeCodes) : (s.takeModeLoad c).ReportIs P := by
  have h4 := hs.anomalyIf s.tracker.anyOpen 4
  exact of_ite (of_eq (h4.hand _) (State.setTracker_report _ _))
    (of_eq ((ReportIs.hand h4 _).hand _) (State.setTracker_report _ _))

theorem declare (hs : s.ReportIs P) (c : ModeCodes) : (s.declare c).ReportIs P := by
  refine ReportIs.hand ?_ _
  exact hs.of_eq rfl

theorem faceModeWord (hs : s.ReportIs P) (f : Fin 8) (w : Word) : (s.faceModeWord f w).ReportIs P := by
  refine of_ite hs (of_ite (hs.of_eq rfl) ?_)
  split
  · exact of_ite (hs.of_eq rfl) (hs.of_eq rfl)
  · exact hs

theorem liveWrite (hs : s.ReportIs P) (f : Fin 8) (b : Buffer) : (s.liveWrite f b).ReportIs P :=
  of_ite (hs.of_eq rfl) hs

theorem startBeat (hs : s.ReportIs P) (f : Fin 8) (b : Buffer) (l : Nat) (z : Fin 16) (w : Word) :
    (s.startBeat f b l z w).ReportIs P := by
  have hafter (ns : List Notice) : (((s.frameStarted f b l).hand ns).scalePixel f z w).ReportIs P :=
    of_eq (ReportIs.hand (s := s.frameStarted f b l) hs ns) rfl
  have hbefore (ns : List Notice) : (((s.frameStarted f b l).scalePixel f z w).hand ns).ReportIs P :=
    ReportIs.hand (s := (s.frameStarted f b l).scalePixel f z w) hs ns
  exact of_ite (hafter _) (of_eq (of_ite (P := State.ReportIs P) (hafter _) (hbefore _)) rfl)

theorem pixelRead (hs : s.ReportIs P) (f : Fin 8) (b : Buffer) (l : Nat) (z : Fin 16) (w : Word) :
    (s.pixelRead f b l z w).ReportIs P :=
  of_ite (hs.of_eq rfl) (of_ite (startBeat (s := s.startStallTimer f) hs f b l z w) (hs.of_eq rfl))

theorem goodFrame (hs : s.ReportIs P) (ch : Fin 4) (code : Nat) (flag : Bool) :
    (s.goodFrame ch code flag).ReportIs P := by
  refine ReportIs.hand ?_ _
  exact hs.of_eq rfl

theorem badSample (hs : s.ReportIs P) (ch : Fin 4) : (s.badSample ch).ReportIs P := by
  refine ReportIs.hand ?_ _
  exact hs.of_eq rfl

theorem goodTile (hs : s.ReportIs P) (f : Fin 8) (i : Fin 32) (st : BitVec 4) (o t : Byte) :
    (s.goodTile f i st o t).ReportIs P := by
  refine ReportIs.hand ?_ _
  exact hs.of_eq rfl

theorem takeExpiries (hs : s.ReportIs P) : s.takeExpiries.ReportIs P :=
  foldl_keeps (fun _ f hs => foldl_keeps (fun _ i hs => of_eq hs (by rw [silentExpiry_frame])) _ hs) _
    (foldl_keeps (fun _ f hs => of_eq hs (by rw [stallExpiry_frame])) _
      (foldl_keeps (fun _ ch hs => of_eq hs (by rw [staleExpiry_frame])) _ hs))

theorem takeTick (hs : s.ReportIs P) : s.takeTick.ReportIs P := hs.of_eq (by rw [takeTick_frame])

theorem settleTime (hs : s.ReportIs P) : s.settleTime.ReportIs P := hs.takeExpiries.takeTick

theorem ms1 (hs : s.ReportIs P) : s.ms1.ReportIs P := hs.of_eq rfl

theorem clockCycle (hs : s.ReportIs P) : s.clockCycle.ReportIs P := by
  have ht := hs.settleTime
  unfold State.clockCycle
  refine of_ite hs ?_
  generalize s.settleTime = u at ht
  exact of_ite (ht.of_eq rfl) ht.ms1

theorem switched (hs : s.ReportIs P) : s.switched.ReportIs P := hs.of_eq (by rw [switched_frame]; rfl)

end State.ReportIs

/-! ### The rule over all commands -/

/-- P is kept by every operation of the Report Block but the write end: a record that joins the queue with the choice it
calls for, a choice, the host's writes and reads, a restart and its request. -/
structure ReportRule (P : Report → Prop) : Prop where
  recorded : ∀ {p} r, P p → P (p.append r).choice
  choice : ∀ {p}, P p → P p.choice
  headerWrite : ∀ {p} k c, P p → P (p.headerWrite k c)
  filterWrite : ∀ {p} k data m, P p → P (p.filterWrite k data m)
  readLock : ∀ {p} off, P p → P (p.readLock off)
  restart : ∀ {p}, P p → P p.restart
  requested : ∀ {p}, P p → P { p with restartPending := true }

namespace ReportRule

variable {P : Report → Prop} {s : State}

theorem restarted (h : ReportRule P) (hs : s.ReportIs P) : s.restart.ReportIs P := h.restart hs

theorem settleRestart (h : ReportRule P) (hs : s.ReportIs P) : s.settleRestart.ReportIs P := of_ite (h.restarted hs) hs

/-! ### Beats -/

theorem requestRestart (h : ReportRule P) (hs : s.ReportIs P) : s.requestRestart.ReportIs P :=
  of_ite hs (of_ite (h.restarted hs) (h.requested hs))

theorem immediateWrite (h : ReportRule P) (off : Nat) (w : Word) (hs : s.ReportIs P) :
    (s.immediateWrite off w).ReportIs P :=
  of_ite (of_ite (hs.of_eq rfl) hs) (of_ite (of_ite (hs.declare _) hs) (of_ite (hs.of_eq rfl)
    (of_ite (of_ite (h.requestRestart hs) hs) (of_ite (hs.faceModeWord _ w) hs))))

theorem policyWrite (h : ReportRule P) (off : Nat) (data : Word) (m : Mask) (hs : s.ReportIs P) :
    (s.policyWrite off data m).ReportIs P := by
  refine of_ite (of_ite (h.immediateWrite off data hs) hs) ?_
  split
  · exact hs.of_eq rfl
  · exact hs

theorem reportWrite (h : ReportRule P) (off : Nat) (data : Word) (m : Mask) (hs : s.ReportIs P) :
    (s.reportWrite off data m).ReportIs P := by
  unfold State.reportWrite
  split
  · exact of_ite (h.headerWrite _ _ hs) hs
  · exact h.filterWrite _ _ _ hs
  · exact hs

theorem takeWrite (h : ReportRule P) (c : BeatClass) (data : Word) (m : Mask) (hs : s.ReportIs P) :
    (s.takeWrite c data m).ReportIs P := by
  cases c with
  | unattributed => exact hs
  | policy off => exact h.policyWrite off data m hs
  | report off => exact h.reportWrite off data m hs
  | pixel f b x line z => exact hs.liveWrite f b
  | padding f b => exact hs.liveWrite f b
  | other c => exact hs

theorem serviceWrite (h : ReportRule P) (off : Nat) (data : Word) (m : Mask) (hs : s.ReportIs P) :
    (s.serviceWrite off data m).ReportIs P :=
  of_ite (hs.of_eq rfl) (of_ite hs (h.takeWrite _ data m (hs.of_eq rfl)))

theorem takeRead (h : ReportRule P) (c : BeatClass) (w : Word) (hs : s.ReportIs P) : (s.takeRead c w).ReportIs P := by
  cases c with
  | unattributed => exact hs.of_eq rfl
  | policy off => exact hs.of_eq rfl
  | report off => exact h.readLock off hs
  | pixel f b x line z => exact hs.pixelRead f b line z w
  | padding f b => exact hs.of_eq rfl
  | other c => exact hs.of_eq rfl

theorem reportReadBeat (h : ReportRule P) (off : Nat) (hs : s.ReportIs P) : (s.reportReadBeat off).ReportIs P :=
  of_ite (h.takeRead _ _ hs) hs

/-! ### Positions -/

theorem issueBeat (h : ReportRule P) (data : Word) (m : Mask) (hs : s.ReportIs P) :
    (s.issueBeat data m).ReportIs P := by
  rcases s.tracker.burst_cases with ⟨w, hw⟩ | ⟨e, hw, he⟩ | hn
  · rw [issueBeat_of_write hw]
    exact h.takeWrite _ data m (hs.of_eq rfl)
  · rw [issueBeat_of_reading hw he]
    exact hs.of_eq rfl
  · rwa [issueBeat_of_no_burst hn]

theorem finishPosition (h : ReportRule P) (hs : s.ReportIs P) : s.finishPosition.ReportIs P :=
  of_ite hs (h.issueBeat _ _ hs)

theorem beginPosition (h : ReportRule P) (hs : s.ReportIs P) : s.beginPosition.ReportIs P := by
  rw [beginPosition_eq]
  have hf := h.finishPosition hs
  exact of_ite (h.settleRestart (hf.of_eq rfl)) (hf.of_eq rfl)

theorem passPositions (h : ReportRule P) (n : Nat) (hs : s.ReportIs P) : (s.passPositions n).ReportIs P := by
  induction n generalizing s with
  | zero => exact hs
  | succ n ih => exact ih (h.beginPosition hs)

theorem passBegun (h : ReportRule P) (c : Bool) (hs : s.ReportIs P) : (s.passBegun c).ReportIs P :=
  of_ite (h.beginPosition hs) hs

theorem untilDue (h : ReportRule P) (hs : s.ReportIs P) : s.untilDue.ReportIs P := by
  cases hd : s.tracker.due with
  | nil => rwa [untilDue_nil hd]
  | cons d ds => rw [untilDue_cons hd]; exact h.finishPosition (h.passPositions _ hs)

/-! ### The bus commands -/

theorem busCommand (h : ReportRule P) (c : BusCommand) {f : State → State}
    (hf : ∀ p : State, p.ReportIs P → (f p).ReportIs P) (hs : s.ReportIs P) : (s.busCommand c f).ReportIs P :=
  of_ite (h.settleRestart (hf _ (h.beginPosition (hs.of_eq rfl)))) (hs.of_eq rfl)

theorem takeReadCommand (h : ReportRule P) (b : Fin 4) (c : Column) (auto : Bool) (hs : s.ReportIs P) :
    (s.takeReadCommand b c auto).ReportIs P :=
  of_ite (h.issueBeat _ _ ((hs.access b).of_eq rfl)) (hs.access b)

theorem takeWriteCommand (h : ReportRule P) (b : Fin 4) (c : Column) (auto : Bool) (data : Word) (m : Mask)
    (hs : s.ReportIs P) : (s.takeWriteCommand b c auto data m).ReportIs P := by
  unfold State.takeWriteCommand
  exact h.issueBeat data m ((hs.access b).of_eq rfl)

/-- Both commands that issue a burst beat. -/
theorem burstCommand (h : ReportRule P) (data : Word) (m : Mask) (c : Bool) (hs : s.ReportIs P) :
    State.ReportIs P (if s.inReset then s.driveStore data m
      else if c then (s.driveIfWrite data m).burstBeat data m else s) := by
  have hd : (s.driveIfWrite data m).ReportIs P := of_ite (hs.of_eq rfl) hs
  exact of_ite (hs.of_eq rfl) (of_ite (h.issueBeat data m (of_ite (h.beginPosition hd) hd)) hs)

theorem returnDelivered (h : ReportRule P) (w : Option Nat) (data : Word) (hs : s.ReportIs P) :
    (s.returnDelivered w data).ReportIs P := by
  have hread {t : State} (ht : t.ReportIs P) : (t.readBeat w data).ReportIs P := h.takeRead _ data ht
  exact of_ite (State.ReportIs.of_eq (of_ite (P := State.ReportIs P) (hread (h.settleRestart hs))
    (h.settleRestart (hread hs))) rfl) (hread hs)

theorem takeReturn (h : ReportRule P) (data : Word) (m : Mask) (cd : Bool) (hs : s.ReportIs P) :
    (s.takeReturn data m cd).ReportIs P := by
  unfold State.takeReturn
  split
  · exact hs
  · exact of_ite hs (of_ite (h.returnDelivered _ data (hs.of_eq rfl)) (h.settleRestart (hs.of_eq rfl)))

theorem takeUnplaced (h : ReportRule P) (data : Word) (m : Mask) (cd : Bool) (hs : s.ReportIs P) :
    (s.takeUnplaced data m cd).ReportIs P := by
  have hn : s.finishPosition.noteArrival.ReportIs P := (h.finishPosition hs).of_eq rfl
  exact of_ite hs (of_ite (h.takeRead _ data hn) (hn.of_eq rfl))

/-! ### Every command -/

theorem takeRecord (h : ReportRule P) (r : Record) (hs : s.ReportIs P) :
    ((s.takeRecord r).modReport Report.choice).ReportIs P := by
  rw [State.ReportIs, State.modReport_report, takeRecord_report]
  split
  · exact h.choice hs
  · exact h.recorded r hs

theorem execRecord (h : ReportRule P) (hs : s.ReportIs P) : ∃ t, execRecord s = .next t ∧ t.ReportIs P := by
  refine ⟨_, rfl, of_ite hs ?_⟩
  split
  · exact (h.takeRecord _ hs).drain _
  · exact hs.drain _

theorem execValidationFailure (hs : s.ReportIs P) : ∃ t, execValidationFailure s = .next t ∧ t.ReportIs P := by
  refine ⟨_, rfl, of_ite hs ?_⟩
  split
  · exact hs.of_eq rfl
  · exact hs

/-- Every command but the write end answers a state whose Report Block is as P says, where P holds at reset. -/
theorem exec (h : ReportRule P) (h0 : P .reset) {c : Instr} (hc : c ≠ .writeEnd) (hs : s.ReportIs P) :
    ∃ t, exec c s = .next t ∧ t.ReportIs P := by
  cases c with
  | powerOnReset => exact ⟨_, rfl, h0⟩
  | resetLine => exact ⟨_, rfl, h0⟩
  | resetRelease p => exact ⟨_, rfl, of_ite h0 hs⟩
  | suspend => exact ⟨_, rfl, of_ite ((h.finishPosition (h.passBegun _ hs)).of_eq rfl) hs⟩
  | resume => exact ⟨_, rfl, of_ite hs (hs.of_eq rfl)⟩
  | openBank b r => exact ⟨_, rfl, h.busCommand _ (fun p hp => (hp.anomalyIf _ 2).of_eq rfl) hs⟩
  | read b c auto => exact ⟨_, rfl, h.busCommand _ (fun p hp => h.takeReadCommand b c auto hp) hs⟩
  | write b c auto data m =>
    exact ⟨_, rfl, h.busCommand _ (fun p hp => h.takeWriteCommand b c auto data m hp) (hs.of_eq rfl)⟩
  | close b => exact ⟨_, rfl, h.busCommand _ (fun p hp => hp.of_eq rfl) hs⟩
  | closeAll => exact ⟨_, rfl, h.busCommand _ (fun p hp => hp.of_eq rfl) hs⟩
  | refresh => exact ⟨_, rfl, h.busCommand _ (fun p hp => hp.takeRefresh) hs⟩
  | sleepEnter => exact ⟨_, rfl, h.busCommand _ (fun p hp => hp.takeSleep) (h.passBegun _ hs)⟩
  | sleepExit =>
    have hd : ((s.driveCommand .sleepExit).setStore .awake).ReportIs P := hs.of_eq rfl
    exact ⟨_, rfl, of_ite (hs.of_eq rfl) ((h.beginPosition hd).of_eq rfl)⟩
  | modeLoad c => exact ⟨_, rfl, h.busCommand _ (fun p hp => hp.takeModeLoad c) hs⟩
  | burstStop => exact ⟨_, rfl, h.busCommand _ (fun p hp => hp.of_eq rfl) hs⟩
  | noOperation => exact ⟨_, rfl, h.busCommand _ (fun p hp => hp) hs⟩
  | burstBeatIssue data m => exact ⟨_, rfl, h.burstCommand data m _ hs⟩
  | burstComplete data m => exact ⟨_, rfl, h.burstCommand data m _ hs⟩
  | readBeatReturn data m cd =>
    exact ⟨_, rfl, of_ite (hs.of_eq rfl) (of_ite (h.takeReturn data m cd (h.untilDue hs)) hs)⟩
  | unplacedArrival data m cd =>
    exact ⟨_, rfl, of_ite (hs.of_eq rfl) (of_ite (h.takeUnplaced data m cd (h.passBegun _ hs)) hs)⟩
  | stagingWrite off data m => exact ⟨_, rfl, h.serviceWrite _ _ _ hs⟩
  | timeWordWrite data m => exact ⟨_, rfl, h.serviceWrite _ _ _ hs⟩
  | modeDeclaration data m => exact ⟨_, rfl, h.serviceWrite _ _ _ hs⟩
  | commitRequest data m => exact ⟨_, rfl, h.serviceWrite _ _ _ hs⟩
  | validationFailure => exact execValidationFailure hs
  | switch => exact ⟨_, rfl, of_ite hs hs.switched⟩
  | restartRequest data m => exact ⟨_, rfl, h.serviceWrite _ _ _ hs⟩
  | monitorRestart => exact ⟨_, rfl, of_ite hs (h.restarted hs)⟩
  | run f up m => exact ⟨_, rfl, h.serviceWrite _ _ _ hs⟩
  | hold f up m => exact ⟨_, rfl, h.serviceWrite _ _ _ hs⟩
  | blank f up m => exact ⟨_, rfl, h.serviceWrite _ _ _ hs⟩
  | dark f up m => exact ⟨_, rfl, h.serviceWrite _ _ _ hs⟩
  | release f up m => exact ⟨_, rfl, h.serviceWrite _ _ _ hs⟩
  | oneMsEvent => exact ⟨_, rfl, of_ite hs hs.settleTime.ms1⟩
  | dimmingTick => exact ⟨_, rfl, of_ite hs hs.takeTick⟩
  | sensorFrameArrival n0 n1 n2 n3 n4 n5 =>
    exact ⟨_, rfl, of_ite hs (of_ite (hs.goodFrame _ _ _) (hs.badSample _))⟩
  | sensorIncompleteFrame => exact ⟨_, rfl, of_ite hs (hs.of_eq rfl)⟩
  | staleTimerExpiry ch => exact ⟨_, rfl, of_ite hs (hs.of_eq (by rw [staleExpiry_frame]))⟩
  | stallTimerExpiry f => exact ⟨_, rfl, of_ite hs (hs.of_eq (by rw [stallExpiry_frame]))⟩
  | tileFrameArrival b0 b1 b2 b3 b4 =>
    exact ⟨_, rfl, of_ite hs (of_ite (hs.of_eq rfl) (of_ite (hs.of_eq rfl) (hs.goodTile _ _ _ _ _)))⟩
  | tileIncompleteFrame => exact ⟨_, rfl, of_ite hs (hs.of_eq rfl)⟩
  | silentTimerExpiry f i => exact ⟨_, rfl, of_ite hs (hs.of_eq (by rw [silentExpiry_frame]))⟩
  | record => exact h.execRecord hs
  | choice => exact ⟨_, rfl, of_ite hs (h.choice hs)⟩
  | writeEnd => exact absurd rfl hc
  | acknowledgment k m => exact ⟨_, rfl, h.serviceWrite _ _ _ hs⟩
  | slotInactive k m => exact ⟨_, rfl, h.serviceWrite _ _ _ hs⟩
  | filterWrite k data m => exact ⟨_, rfl, h.serviceWrite _ _ _ hs⟩
  | headerRead k => exact ⟨_, rfl, h.reportReadBeat _ hs⟩
  | stampWordRead => exact ⟨_, rfl, h.reportReadBeat _ hs⟩
  | reservedWrite off data m => exact ⟨_, rfl, h.serviceWrite _ _ _ hs⟩

end ReportRule

/-! ### The record of a slot that stays locked -/

/-- The block is sound, and each slot has the record it had or none. -/
structure Report.KeptFrom (p q : Report) : Prop where
  ok : q.Ok
  record : ∀ k : Fin 32, q.slots[k].record = p.slots[k].record ∨ q.slots[k].record = none

theorem Report.Ok.keptFrom {p : Report} (h : p.Ok) : p.KeptFrom p := ⟨h, fun _ => .inl rfl⟩

/-- An operation after which each slot has the record it had or none. -/
theorem Report.KeptFrom.next {p q u : Report} (h : p.KeptFrom q) (hok : u.Ok)
    (hrec : ∀ k : Fin 32, u.slots[k].record = q.slots[k].record ∨ u.slots[k].record = none) : p.KeptFrom u where
  ok := hok
  record k := (hrec k).elim (fun hq => (h.record k).imp hq.trans hq.trans) .inr

/-- The operations that leave the queue of an IDLE writer empty keep `Report.Ok` with its parts. -/
theorem Report.Ok.of_sound {p q : Report} (h : p.Ok) (hq : q.Sound) (hwriter : q.writer = p.writer)
    (hqueue : p.queue = [] → q.queue = []) : q.Ok :=
  (report_ok_iff q).mpr ⟨hq, fun hw => hqueue (h.idle (hwriter.symm.trans hw))⟩

theorem keptRule (p : Report) : ReportRule p.KeptFrom where
  recorded {q} r h := by
    refine h.next (h.ok.sound.append r).choice fun k => ?_
    have hslots : (q.append r).slots = q.slots := by rw [append_frame]
    exact hslots ▸ choice_record (q.append r) k
  choice {q} h := h.next h.ok.sound.choice (choice_record q)
  headerWrite {q} k c h := by
    refine h.next (h.ok.of_sound (h.ok.sound.headerWrite k c) ?_ ?_) (headerWrite_record q k c)
    · rw [headerWrite_frame]
    · rw [headerWrite_frame]; exact id
  filterWrite {q} k data m h := by
    refine h.next (h.ok.of_sound (h.ok.sound.filterWrite k data m) ?_ ?_) fun j => .inl ?_
    · rw [filterWrite_frame]
    · rw [filterWrite_frame]; exact id
    · rw [filterWrite_slot]
  readLock {q} off h := by
    obtain ⟨l, -, heq⟩ := readLock_cases q off
    have hs := h.ok.sound.readLock off
    rw [heq] at hs ⊢
    exact h.next (h.ok.of_sound hs rfl id) fun _ => .inl rfl
  restart {q} h := h.next (h.ok.of_sound h.ok.sound.restart rfl fun _ => rfl) fun _ => .inl rfl
  requested {q} h := h.next h.ok fun _ => .inl rfl

/-- At reset no slot holds a record (R168). -/
theorem reset_keptFrom (p : Report) : p.KeptFrom .reset where
  ok := Report.reset_ok
  record k := .inr (congrArg Slot.record (tabulate_get (fun _ => Slot.reset) k))

/-- A slot that is locked and locked again, and has its record or none, has its record (R163). -/
theorem Report.Ok.record_of_locked {p q : Report} (hq : q.Ok) {k : Fin 32} (hl : q.lock = some k)
    (hrec : q.slots[k].record = p.slots[k].record ∨ q.slots[k].record = none) :
    q.slots[k].record = p.slots[k].record := by
  refine hrec.resolve_right fun hnone => ?_
  obtain ⟨hholds, -⟩ := hq.sound.slot k
  have hh := hholds.trans (hq.sound.lock k hl)
  rw [hnone] at hh
  exact Bool.noConfusion hh

theorem exec_keeps_report {s t : State} {c : Instr} (h : s.report.Ok) (he : exec c s = .next t) :
    t.report.Ok ∧ ∀ k : Fin 32, s.report.lock = some k → t.report.lock = some k →
      t.report.slots[k].record = s.report.slots[k].record := by
  by_cases hc : c = .writeEnd
  · subst hc
    cases he
    split
    · exact ⟨h, fun _ _ _ => rfl⟩
    · exact ⟨h.writeEnd, fun k hl ht => h.writeEnd.record_of_locked ht (writeEnd_record h hl)⟩
  · obtain ⟨u, hu, hk⟩ := (keptRule s.report).exec (reset_keptFrom _) hc (show s.ReportIs _ from h.keptFrom)
    rw [hu] at he
    cases he
    exact ⟨hk.ok, fun k _ ht => hk.ok.record_of_locked ht (hk.record k)⟩

/-- Settles O58: all commands but the write end by `keptRule`, the write end by itself; an idle step leaves the
block. -/
theorem stepKeepsTheReportBlock : Obligations.StepKeepsTheReportBlock := by
  intro s t h he
  unfold step at he
  split at he
  · cases he
    have hk : s.clockCycle.ReportIs s.report.KeptFrom := State.ReportIs.clockCycle h.keptFrom
    exact ⟨hk.ok, fun k _ ht => hk.ok.record_of_locked ht (hk.record k)⟩
  · rename_i c rest _
    exact exec_keeps_report (s := { s with pending := rest }) h he

end Sys2Proof.Machine
end

section
/-! SUPPORT. The statements about the slot writer, the host's slot writes and the chain of items of the report page
(R159 to R162, R164, R165, R170). -/

namespace Sys2Proof.Machine

/-! ### The slot a record takes (R159) -/

/-- A slot fits a record where the keys agree in every bit of the filter mask (R159). -/
theorem fits_iff (x : Slot) (r : Record) :
    x.fits r = true ↔
      ∀ n : Fin 16, x.filterMask.getLsbD n.val = true → r.key.getLsbD n.val = x.filterKey.getLsbD n.val := by
  have hbit : ∀ a b m : Bool, ((a ^^ b) && m) = false ↔ (m = true → b = a) := by decide
  simp only [Slot.fits, beq_iff_eq, BitVec.eq_of_getLsbD_eq_iff, BitVec.getLsbD_and, BitVec.getLsbD_xor,
    BitVec.getLsbD_zero, hbit, Fin.forall_iff]

/-- An EMPTY candidate below which no candidate is EMPTY is chosen (R159). -/
theorem chosen_of_lowest_empty {p : Report} {r : Record} {k : Fin 32} (hk : p.candidate r k = true)
    (he : p.slots[k].code = .empty) (hlow : ∀ j, j < k → p.candidate r j = true → p.slots[j].code ≠ .empty) :
    p.chosen r = some k := by
  have hfind : (allSlots.filter fun j => p.candidate r j).find? (fun j => p.slots[j].code == .empty) = some k := by
    rw [List.find?_filter, allSlots, ← Fin.find?_eq_find?_finRange, Fin.find?_eq_some_iff]
    refine ⟨by rw [hk, he]; rfl, fun j hj => ?_⟩
    simpa using hlow j hj
  simp only [Report.chosen, hfind]

/-- Where no candidate is EMPTY the highest-numbered one is chosen (R159). -/
theorem chosen_of_highest {p : Report} {r : Record} {k : Fin 32} (hk : p.candidate r k = true)
    (hnone : ∀ j, p.candidate r j = true → p.slots[j].code ≠ .empty)
    (hhigh : ∀ j, k < j → ¬ p.candidate r j = true) : p.chosen r = some k := by
  let cs := allSlots.filter fun j => p.candidate r j
  have hfind : cs.find? (fun j => p.slots[j].code == .empty) = none :=
    List.find?_eq_none.mpr fun j hj => by simpa using hnone j (List.mem_filter.mp hj).2
  have hmem : k ∈ cs := List.mem_filter.mpr ⟨List.mem_finRange k, hk⟩
  have hne : cs ≠ [] := List.ne_nil_of_mem hmem
  have hsorted : cs.Pairwise (· ≤ ·) := ((List.pairwise_lt_finRange 32).filter _).imp Fin.le_of_lt
  have hle : k ≤ cs.getLast hne := hsorted.rel_getLast hmem
  have hlast : p.candidate r (cs.getLast hne) = true := (List.mem_filter.mp (List.getLast_mem hne)).2
  have hk : cs.getLast hne = k := by
    by_contra hno
    exact hhigh _ (lt_of_le_of_ne hle (Ne.symm hno)) hlast
  have hchosen : p.chosen r = cs.getLast? := by simp only [Report.chosen, cs, hfind]
  rw [hchosen, List.getLast?_eq_some_getLast hne, hk]

/-! ### The choice and the write end (R159, R160) -/

/-- A choice sets the queue, so it does not look at the one that stands. -/
theorem chooseFrom_setQueue (rs q : List Record) (p : Report) :
    ({ p with queue := q } : Report).chooseFrom rs = p.chooseFrom rs := by
  induction rs generalizing p with
  | nil => rfl
  | cons r rs ih =>
    have hchosen : ({ p with queue := q } : Report).chosen r = p.chosen r := rfl
    simp only [Report.chooseFrom, hchosen]
    split
    · rfl
    · exact ih { p with drop := satInc max16 p.drop }

/-- A record that finds a slot takes it (R159). -/
theorem choice_of_chosen {p : Report} (hw : p.writer = none) {r : Record} {rest : List Record}
    (hq : p.queue = r :: rest) {k : Fin 32} (h : p.chosen r = some k) :
    p.choice = { p with queue := rest, writer := some (r, k), slots := p.slots.set k p.slots[k].busy } := by
  simp only [choice_of_idle hw, hq, Report.chooseFrom, h]

/-- A record that finds no slot is dropped and counted, and the next is tried (R159). -/
theorem choice_of_no_candidate {p : Report} (hw : p.writer = none) {r : Record} {rest : List Record}
    (hq : p.queue = r :: rest) (h : ∀ j, p.candidate r j = false) :
    p.choice = ({ p with queue := rest, drop := satInc max16 p.drop } : Report).choice := by
  rw [choice_of_idle hw, hq, choice_of_idle (p := { p with queue := rest, drop := _ }) hw, Report.chooseFrom,
    chosen_none.mpr h]
  exact (chooseFrom_setQueue rest rest _).symm

/-- With no record waiting there is no choice to make (R159). -/
theorem choice_of_no_record {p : Report} (hq : p.queue = []) : p.choice = p := by
  cases hw : p.writer with
  | some w => exact choice_of_writing (by rw [hw]; rfl)
  | none =>
    rw [choice_of_idle hw, hq]
    obtain ⟨queue, drop, writer, slots, lock, restartPending⟩ := p
    cases hq
    rfl

theorem exec_choice {s : State} (h : s.inReset = false) : exec .choice s = .next (s.modReport Report.choice) :=
  congrArg _ (if_neg (by simp [h]))

theorem exec_writeEnd {s : State} (h : s.inReset = false) : exec .writeEnd s = .next (s.modReport Report.writeEnd) :=
  congrArg _ (if_neg (by simp [h]))

/-- Settles O53: a candidate by its bits, the slot that is chosen among them, and the write end by the slot's former
code. -/
theorem slotWriter : Obligations.SlotWriter := by
  intro s r rest k hr p candidate best
  have hcand (j : Fin 32) : candidate j ↔ p.candidate r j = true := by
    rw [candidate_iff, fits_iff]
  have hchoice {q : Report} (h : p.choice = q) : exec .choice s = .next { s with report := q } :=
    (exec_choice hr).trans (by rw [State.modReport, h])
  refine ⟨fun hw hq hbest => hchoice (choice_of_chosen hw hq ?_), fun hw hq hno hdrop => ?_,
    fun hidle _ => hchoice ?_, fun g hg hw hok => ?_, fun hw => ?_⟩
  · obtain ⟨hk, ⟨he, hlow⟩ | ⟨hnone, hhigh⟩⟩ := hbest
    · exact chosen_of_lowest_empty ((hcand k).mp hk) he fun j hj hc => hlow j hj ((hcand j).mpr hc)
    · exact chosen_of_highest ((hcand k).mp hk) (fun j hc => hnone j ((hcand j).mpr hc))
        fun j hj hc => hhigh j hj ((hcand j).mpr hc)
  · have hfalse (j : Fin 32) : p.candidate r j = false := Bool.eq_false_iff.mpr (mt (hcand j).mpr (hno j))
    have hdropped := hchoice (choice_of_no_candidate hw hq hfalse)
    rw [max16, satInc_eq_min hdrop] at hdropped
    exact hdropped.trans (exec_choice (s := { s with report := { p with queue := rest, drop := _ } }) hr).symm
  · exact hidle.elim choice_of_writing choice_of_no_record
  · intro written
    have hchoice : exec .choice written = .next (written.modReport Report.choice) := exec_choice hr
    have hwritten : s.modReport Report.writeEnd = written.modReport Report.choice := by
      have hend : p.writeEnd = written.report.choice := by
        simp only [Report.writeEnd, hw, (hok.sound.slot k).written_eq hg r, written]
      rw [State.modReport, hend]
      rfl
    have hend : exec .writeEnd s = exec .choice written := by
      rw [exec_writeEnd hr, hwritten, hchoice]
    refine ⟨hend, fun hq => ?_⟩
    rw [hend, hchoice, State.modReport, choice_of_no_record (p := written.report) hq]
  · have hend : p.writeEnd = p := by rw [Report.writeEnd, hw]
    rw [exec_writeEnd hr, State.modReport, hend]

/-! ### The host's writes of a slot (R161, R162) -/

theorem reportWrite_filter (s : State) (k : Fin 32) (data : Word) (m : Mask) :
    s.reportWrite (1032 + 8 * k.val + 1) data m = s.modReport fun p => p.filterWrite k data m := by
  rw [State.reportWrite, slotWord_slot k (by decide)]
  rfl

/-- A row that writes slot k's header word, at a position (R161). -/
theorem serviceWrite_header {s : State} (ht : s.takesBus = true) (k : Fin 32) (data : Word) (m : Mask) :
    s.serviceWrite (slotOffset k 0) data m =
      if m = 0#4 then (s.driveStore data m).modReport fun p => p.headerWrite k (bits data 0 3)
      else s.driveStore data m := by
  have hwhole : whole m = true ↔ m = 0#4 := by simp [whole]
  rw [serviceWrite_slot ht, Nat.add_zero, State.takeWrite, reportWrite_header]
  exact if_congr hwhole rfl rfl

/-- A row that writes slot k's filter word, at a position (R162). -/
theorem serviceWrite_filter {s : State} (ht : s.takesBus = true) (k : Fin 32) (data : Word) (m : Mask) :
    s.serviceWrite (slotOffset k 1) data m = (s.driveStore data m).modReport fun p => p.filterWrite k data m := by
  rw [serviceWrite_slot ht, State.takeWrite, reportWrite_filter]

theorem headerWrite_of_busy {p : Report} {k : Fin 32} (h : p.slots[k].code = .busy) (c : Nat) : p.headerWrite k c = p :=
  if_pos h

theorem headerWrite_of_empty {p : Report} {k : Fin 32} (h : p.slots[k].code = .empty) : p.headerWrite k 1 = p := by
  rw [Report.headerWrite, if_neg (by rw [h]; decide), if_pos rfl, if_pos h]

theorem headerWrite_empty {p : Report} {k : Fin 32} (hb : p.slots[k].code ≠ .busy) (he : p.slots[k].code ≠ .empty) :
    p.headerWrite k 1 = { p with slots := p.slots.set k (p.slots[k].clearedTo .empty), lock := unlock p.lock k } := by
  rw [Report.headerWrite, if_neg hb, if_pos rfl, if_neg he]

theorem headerWrite_inactive {p : Report} {k : Fin 32} (hb : p.slots[k].code ≠ .busy) :
    p.headerWrite k 0 =
      { p with slots := p.slots.set k (p.slots[k].clearedTo .inactive), lock := unlock p.lock k } := by
  rw [Report.headerWrite, if_neg hb, if_neg (by decide), if_pos rfl]

/-- The filter word of a slot, bit by bit: the key in its low half and the mask in its high half (12.6). -/
theorem getLsbD_filterWord (x : Slot) (n : Fin 16) :
    x.filterWord.getLsbD n.val = x.filterKey.getLsbD n.val ∧
      x.filterWord.getLsbD (16 + n.val) = x.filterMask.getLsbD n.val := by
  have hn := n.isLt
  rw [Slot.filterWord, BitVec.getLsbD_or, BitVec.getLsbD_or, getLsbD_put 0 16 _ n.val (by omega),
    getLsbD_put 16 16 _ n.val (by omega), getLsbD_put 0 16 _ (16 + n.val) (by omega),
    getLsbD_put 16 16 _ (16 + n.val) (by omega)]
  simp [BitVec.getLsbD]

/-- The filter key and mask of a slot with a filter word, bit by bit (12.6). -/
theorem getLsbD_withFilter (x : Slot) (w : Word) (n : Fin 16) :
    (x.withFilter w).filterKey.getLsbD n.val = w.getLsbD n.val ∧
      (x.withFilter w).filterMask.getLsbD n.val = w.getLsbD (16 + n.val) := by
  simp only [Slot.withFilter, BitVec.getLsbD_ofNat, testBit_bits]
  simp

/-- The filter key and mask that a beat's unmasked lanes make (R162). -/
theorem getLsbD_withFilter_merge (x : Slot) (data : Word) (m : Mask) (n : Fin 16) :
    (x.withFilter (mergeLanes x.filterWord data m)).filterKey.getLsbD n.val =
        (if m.getLsbD (n.val / 8) then x.filterKey.getLsbD n.val else data.getLsbD n.val) ∧
      (x.withFilter (mergeLanes x.filterWord data m)).filterMask.getLsbD n.val =
        if m.getLsbD (2 + n.val / 8) then x.filterMask.getLsbD n.val else data.getLsbD (16 + n.val) := by
  have hlane : (16 + n.val) / 8 = 2 + n.val / 8 := by omega
  have hlow := getLsbD_mergeLanes x.filterWord data m ⟨n.val, by omega⟩
  have hhigh := getLsbD_mergeLanes x.filterWord data m ⟨16 + n.val, by omega⟩
  obtain ⟨hkey, hmask⟩ := getLsbD_filterWord x n
  obtain ⟨hnewKey, hnewMask⟩ := getLsbD_withFilter x (mergeLanes x.filterWord data m) n
  rw [hnewKey, hnewMask, hlow, hhigh, hkey, hmask, hlane]
  exact ⟨rfl, rfl⟩

/-- Settles O54: a header row by its code and what the slot holds, a filter row by the lanes of its beat. -/
theorem hostSlotWrites : Obligations.HostSlotWrites := by
  intro s k data m ht p x s' emptied
  have hack : exec (.acknowledgment k m) s = .next (s.serviceWrite (slotOffset k 0) 1#32 m) := rfl
  have hinactive : exec (.slotInactive k m) s = .next (s.serviceWrite (slotOffset k 0) 0#32 m) := rfl
  have hfilter : exec (.filterWrite k data m) s = .next (s.serviceWrite (slotOffset k 1) data m) := rfl
  have hone : bits 1#32 0 3 = 1 := by decide
  have hzero : bits 0#32 0 3 = 0 := by decide
  rw [hack, hinactive, hfilter, serviceWrite_header ht, serviceWrite_header ht, serviceWrite_filter ht, hone, hzero]
  refine ⟨fun hm hb he => ?_, fun hm hb => ?_, fun h => ?_, fun he => ?_, fun hi => ?_, fun hi => ?_⟩
  · rw [if_pos hm, State.modReport, State.driveStore_report, headerWrite_empty hb he]
    rfl
  · rw [if_pos hm, State.modReport, State.driveStore_report, headerWrite_inactive hb]
    rfl
  · by_cases hm : m = 0#4
    · have hb : p.slots[k].code = .busy := h.resolve_left fun hne => hne hm
      rw [if_pos hm, if_pos hm, State.modReport, State.modReport, State.driveStore_report, State.driveStore_report,
        headerWrite_of_busy hb, headerWrite_of_busy hb]
      exact ⟨rfl, rfl⟩
    · rw [if_neg hm, if_neg hm]
      exact ⟨rfl, rfl⟩
  · rw [State.modReport, State.driveStore_report, headerWrite_of_empty he]
    exact congrArg _ (ite_self _)
  · have hno : p.filterWrite k data m = p := if_neg hi
    rw [State.modReport, State.driveStore_report, hno]
    rfl
  · have hyes : p.filterWrite k data m =
        { p with slots := p.slots.set k (x.withFilter (mergeLanes x.filterWord data m)) } := if_pos hi
    refine ⟨x.withFilter (mergeLanes x.filterWord data m), ?_, getLsbD_withFilter_merge x data m⟩
    rw [State.modReport, State.driveStore_report, hyes]
    rfl

/-! ### The chain of items (R164, R165) -/

/-- An item word whose next item lies within the 11 bits of a report offset (12.6). -/
theorem itemWord_eq {identity next : Nat} (hi : identity < 2 ^ 8) (hn : next < 2 ^ 11) :
    itemWord identity next = BitVec.ofNat 32 (identity + next * 65536) :=
  ((FitsWord.put hi).or (lo := 16) (by decide) hn).eq

/-- A field above the low bits of a word leaves them. -/
theorem or_put_low (w : Word) (lo n v : Nat) {k : Nat} (h : k ≤ min lo 32) :
    (w ||| put lo n v).toNat % 2 ^ k = w.toNat % 2 ^ k := by
  have hput : (put lo n v).toNat % 2 ^ k = 0 := by
    obtain ⟨hlo, hword⟩ := le_min_iff.mp h
    rw [put, BitVec.toNat_ofNat]
    exact Nat.mod_eq_zero_of_dvd
      ((Nat.dvd_mod_iff (Nat.pow_dvd_pow 2 hword)).mpr (Dvd.dvd.mul_left (Nat.pow_dvd_pow 2 hlo) _))
  rw [BitVec.toNat_or, Nat.or_mod_two_pow, hput, Nat.or_zero]

/-- The number of a face in its item (12.6). -/
theorem faceWord_number (s : State) (f : Fin 8) (next : Nat) : (s.faceWord f next 1).toNat % 2 ^ 3 = f.val := by
  rw [State.faceWord, putBit, putBit, or_put_low _ 20 _ _ (by decide), or_put_low _ 16 _ _ (by decide),
    or_put_low _ 11 _ _ (by decide), or_put_low _ 8 _ _ (by decide), (FitsWord.put f.isLt).toNat (by decide)]
  exact Nat.mod_eq_of_lt f.isLt

/-- The number of a channel in its item (12.6). -/
theorem channelWord_number (s : State) (c : Fin 4) (next : Nat) : (s.channelWord c next 1).toNat % 2 ^ 2 = c.val := by
  rw [State.channelWord, putBit, putBit, or_put_low _ 8 _ _ (by decide), or_put_low _ 5 _ _ (by decide),
    or_put_low _ 4 _ _ (by decide), (FitsWord.put c.isLt).toNat (by decide)]
  exact Nat.mod_eq_of_lt c.isLt

/-- A word of a channel item, with the offset of the item behind it: the next channel's, or the slot item's (R165). -/
theorem reportRead_channelItem (s : State) (c : Fin 4) {k : Nat} (hk : k < 16) :
    s.reportRead (32 + 48 * s.configuredFaces.length + 16 * c.val + k) =
      s.channelWord c (if c.val = 3 then 1024 else 32 + 48 * s.configuredFaces.length + 16 * (c.val + 1)) k := by
  have hc := c.isLt
  generalize hn : s.configuredFaces.length = n
  have hdiv : (32 + 48 * n + 16 * c.val + k - 32 - 48 * n) / 16 = c.val := by omega
  have hmod : (32 + 48 * n + 16 * c.val + k - 32 - 48 * n) % 16 = k := by omega
  have hnext : (if c.val < 3 then 48 + 48 * n + 16 * c.val else 1024) =
      if c.val = 3 then 1024 else 32 + 48 * n + 16 * (c.val + 1) := by
    split <;> split <;> omega
  rw [State.reportRead]
  simp only [hn, hdiv, hmod, hnext, Fin.ofNat_val_eq_self]
  rw [if_neg (by omega), if_neg (by omega), if_pos (by omega)]

/-- Beyond the items, the slot item's word and the slots, the page reads 0 (R165, R170). -/
theorem reportRead_beyond (s : State) {off : Nat}
    (h : (32 + 48 * s.configuredFaces.length + 64 ≤ off ∧ off < 1024) ∨ (1024 < off ∧ off < 1032) ∨ 1288 ≤ off) :
    s.reportRead off = 0#32 := by
  have hn := configuredFaces_length s
  have hslot : slotWord off = none := if_neg (by simp only [Bool.and_eq_true, decide_eq_true_eq]; omega)
  simp only [State.reportRead, hslot]
  rw [if_neg (by omega), if_neg (by omega), if_neg (by omega), if_neg (by omega)]

/-- The slot item's word ends the chain (R165). -/
theorem reportRead_slotItem (s : State) : s.reportRead 1024 = 4#32 := by
  have hn := configuredFaces_length s
  rw [State.reportRead, if_neg (by omega), if_neg (by omega), if_neg (by omega), if_pos rfl]
  decide

/-- Settles O56: each word by the item it lies in (`reportRead_face`, `reportRead_channelItem`), and zeros beyond
them. -/
theorem reportPageChain : Obligations.ReportPageChain := by
  intro s i c f off fs chans
  have hchan {k : Nat} (hk : k < 16) : s.reportRead (chans + 16 * c.val + k) =
      s.channelWord c (if c.val = 3 then 1024 else chans + 16 * (c.val + 1)) k := reportRead_channelItem s c hk
  refine ⟨?_, reportRead_stamp s, ?_, fun hf => ⟨?_, ?_, ?_⟩, ?_, ?_, ?_, reportRead_slotItem s, reportRead_beyond s⟩
  · exact (reportRead_header s (by decide)).trans (itemWord_eq (by decide) (by decide))
  · exact (reportRead_header s (by decide)).trans (by decide : put 0 16 2240 ||| put 16 8 0x42 = 0x004208C0#32)
  · have hoff : 32 + 48 * (i.val + 1) = 80 + 48 * i.val := by omega
    refine (reportRead_face hf (k := 0) (by decide)).trans ?_
    rw [hoff]
    exact itemWord_eq (by decide) (by omega)
  · have hoff : 33 + 48 * i.val = 32 + 48 * i.val + 1 := by omega
    rw [hoff, reportRead_face hf (by decide)]
    exact faceWord_number s f _
  · have hoff : 39 + 48 * i.val = 32 + 48 * i.val + 7 := by omega
    rw [hoff, reportRead_face hf (by decide)]
    rfl
  · refine (hchan (k := 0) (by decide)).trans (itemWord_eq (by decide) ?_)
    have hn : fs.length ≤ 8 := configuredFaces_length s
    have hchans : chans = 32 + 48 * fs.length := rfl
    split <;> omega
  · rw [hchan (by decide)]
    exact channelWord_number s c _
  · rw [hchan (by decide)]
    rfl

end Sys2Proof.Machine
end

section
/-! SUPPORT. A step runs the command at the front of what waits, and no command touches what waits behind it (log 2). What
waits is no part of what `EventRule` watches, so it is said here of each shared operation that it leaves it. -/

namespace Sys2Proof.Machine

/-! ### The front of the queue -/

/-- Settles O1: the step's own equation for a queue that is not empty; `step_of_idle` is the other. -/
theorem stepRunsTheFrontCommand : Obligations.StepRunsTheFrontCommand := by
  intro s c rest h
  rw [step, h]

/-! ### Handing over -/

/-- A conditional operation both of whose cases leave what waits. -/
theorem ite_pending {s a b : State} {c : Prop} [Decidable c] (ha : a.pending = s.pending) (hb : b.pending = s.pending) :
    (if c then a else b).pending = s.pending := of_ite (P := fun t => t.pending = s.pending) ha hb

@[simp] theorem drain_pending (s : State) (ns : List Notice) : (s.drain ns).pending = s.pending := by rw [drain_frame]

@[simp] theorem hand_pending (s : State) (ns : List Notice) : (s.hand ns).pending = s.pending := drain_pending s _

@[simp] theorem takeRecord_pending (s : State) (r : Record) : (s.takeRecord r).pending = s.pending := by
  rw [takeRecord_frame]

@[simp] theorem anomaly_pending (s : State) (k : Nat) : (s.anomaly k).pending = s.pending := hand_pending s _

@[simp] theorem anomalyIf_pending (s : State) (c : Bool) (k : Nat) : (s.anomalyIf c k).pending = s.pending :=
  ite_pending (anomaly_pending s k) rfl

/-! ### Write beats -/

@[simp] theorem requestRestart_pending (s : State) : s.requestRestart.pending = s.pending :=
  ite_pending rfl (ite_pending rfl rfl)

@[simp] theorem declare_pending (s : State) (c : ModeCodes) : (s.declare c).pending = s.pending := hand_pending _ _

@[simp] theorem faceModeWord_pending (s : State) (f : Fin 8) (w : Word) : (s.faceModeWord f w).pending = s.pending := by
  refine ite_pending rfl (ite_pending rfl ?_)
  split
  · exact ite_pending rfl rfl
  · rfl

@[simp] theorem immediateWrite_pending (s : State) (off : Nat) (w : Word) :
    (s.immediateWrite off w).pending = s.pending :=
  ite_pending (ite_pending rfl rfl) (ite_pending (ite_pending (declare_pending s _) rfl) (ite_pending rfl
    (ite_pending (ite_pending (requestRestart_pending s) rfl) (ite_pending (faceModeWord_pending s _ w) rfl))))

@[simp] theorem policyWrite_pending (s : State) (off : Nat) (data : Word) (m : Mask) :
    (s.policyWrite off data m).pending = s.pending := by
  refine ite_pending (ite_pending (immediateWrite_pending s off data) rfl) ?_
  split <;> rfl

@[simp] theorem reportWrite_pending (s : State) (off : Nat) (data : Word) (m : Mask) :
    (s.reportWrite off data m).pending = s.pending := by
  unfold State.reportWrite
  split
  · exact ite_pending rfl rfl
  · rfl
  · rfl

@[simp] theorem liveWrite_pending (s : State) (f : Fin 8) (b : Buffer) : (s.liveWrite f b).pending = s.pending :=
  ite_pending rfl rfl

/-- A write beat, whatever its class. -/
@[simp] theorem takeWrite_pending (s : State) (c : BeatClass) (data : Word) (m : Mask) :
    (s.takeWrite c data m).pending = s.pending := by
  cases c with
  | unattributed => rfl
  | policy off => exact policyWrite_pending s off data m
  | report off => exact reportWrite_pending s off data m
  | pixel f b x line z => exact liveWrite_pending s f b
  | padding f b => exact liveWrite_pending s f b
  | other c => rfl

@[simp] theorem serviceWrite_pending (s : State) (off : Nat) (data : Word) (m : Mask) :
    (s.serviceWrite off data m).pending = s.pending :=
  ite_pending rfl (ite_pending rfl (takeWrite_pending _ _ data m))

/-! ### Read beats -/

@[simp] theorem startBeat_pending (s : State) (f : Fin 8) (b : Buffer) (l : Nat) (z : Fin 16) (w : Word) :
    (s.startBeat f b l z w).pending = s.pending := by
  have hafter (ns : List Notice) : (((s.frameStarted f b l).hand ns).scalePixel f z w).pending = s.pending :=
    hand_pending (s.frameStarted f b l) ns
  have hbefore (ns : List Notice) : (((s.frameStarted f b l).scalePixel f z w).hand ns).pending = s.pending :=
    hand_pending _ ns
  exact ite_pending (hafter _) (ite_pending (hafter _) (hbefore _))

@[simp] theorem pixelRead_pending (s : State) (f : Fin 8) (b : Buffer) (l : Nat) (z : Fin 16) (w : Word) :
    (s.pixelRead f b l z w).pending = s.pending :=
  ite_pending rfl (ite_pending (startBeat_pending (s.startStallTimer f) f b l z w) rfl)

/-- A read beat, whatever its class. -/
@[simp] theorem takeRead_pending (s : State) (c : BeatClass) (w : Word) : (s.takeRead c w).pending = s.pending := by
  cases c with
  | unattributed => rfl
  | policy off => rfl
  | report off => rfl
  | pixel f b x line z => exact pixelRead_pending s f b line z w
  | padding f b => rfl
  | other c => rfl

@[simp] theorem readBeat_pending (s : State) (w : Option Nat) (data : Word) : (s.readBeat w data).pending = s.pending :=
  takeRead_pending s _ data

@[simp] theorem reportReadBeat_pending (s : State) (off : Nat) : (s.reportReadBeat off).pending = s.pending :=
  ite_pending (takeRead_pending s _ _) rfl

/-! ### Positions -/

/-- The issue of a beat, whatever burst is in flight. -/
@[simp] theorem issueBeat_pending (s : State) (data : Word) (m : Mask) : (s.issueBeat data m).pending = s.pending := by
  rcases s.tracker.burst_cases with ⟨w, hw⟩ | ⟨e, hw, he⟩ | hn
  · rw [issueBeat_of_write hw]
    exact takeWrite_pending _ _ data m
  · rw [issueBeat_of_reading hw he, State.setTracker_pending]
  · rw [issueBeat_of_no_burst hn]

@[simp] theorem finishPosition_pending (s : State) : s.finishPosition.pending = s.pending :=
  ite_pending rfl (issueBeat_pending s _ _)

@[simp] theorem beginPosition_pending (s : State) : s.beginPosition.pending = s.pending := by
  rw [beginPosition_eq]
  exact ite_pending (by simp) (by simp)

@[simp] theorem passPositions_pending (s : State) (n : Nat) : (s.passPositions n).pending = s.pending := by
  induction n generalizing s with
  | zero => rfl
  | succ n ih => exact (ih _).trans (beginPosition_pending s)

@[simp] theorem passBegun_pending (s : State) (c : Bool) : (s.passBegun c).pending = s.pending :=
  ite_pending (beginPosition_pending s) rfl

@[simp] theorem untilDue_pending (s : State) : s.untilDue.pending = s.pending := by
  cases hd : s.tracker.due with
  | nil => rw [untilDue_nil hd]
  | cons d ds => rw [untilDue_cons hd, finishPosition_pending, passPositions_pending]

/-! ### The bus commands -/

/-- A bus command leaves what waits where its meaning at its position does. -/
theorem busCommand_pending (s : State) (c : BusCommand) {f : State → State}
    (hf : ∀ p : State, (f p).pending = p.pending) : (s.busCommand c f).pending = s.pending := by
  refine ite_pending ?_ rfl
  rw [settleRestart_pending, hf]
  exact beginPosition_pending (s.driveCommand c)

@[simp] theorem access_pending (s : State) (b : Fin 4) : (s.access b).pending = s.pending := by simp [access_eq]

theorem takeReadCommand_pending (s : State) (b : Fin 4) (c : Column) (auto : Bool) :
    (s.takeReadCommand b c auto).pending = s.pending :=
  ite_pending (by simp) (access_pending s b)

theorem takeWriteCommand_pending (s : State) (b : Fin 4) (c : Column) (auto : Bool) (data : Word) (m : Mask) :
    (s.takeWriteCommand b c auto data m).pending = s.pending := by
  simp [State.takeWriteCommand]

theorem takeRefresh_pending (s : State) : s.takeRefresh.pending = s.pending :=
  ite_pending (anomaly_pending s 3) rfl

theorem takeSleep_pending (s : State) : s.takeSleep.pending = s.pending := anomalyIf_pending s _ 5

theorem takeModeLoad_pending (s : State) (c : ModeCodes) : (s.takeModeLoad c).pending = s.pending :=
  ite_pending (by simp) (by simp)

/-- Both commands that issue a burst beat. -/
theorem burstCommand_pending (s : State) (data : Word) (m : Mask) (c : Bool) :
    (if s.inReset then s.driveStore data m
      else if c then (s.driveIfWrite data m).burstBeat data m else s).pending = s.pending := by
  have hdrive : (s.driveIfWrite data m).pending = s.pending := ite_pending rfl rfl
  have hbegun : (if (s.driveIfWrite data m).tracker.beatDone then (s.driveIfWrite data m).beginPosition
      else s.driveIfWrite data m).pending = s.pending := ite_pending ((beginPosition_pending _).trans hdrive) hdrive
  exact ite_pending rfl (ite_pending ((issueBeat_pending _ data m).trans hbegun) rfl)

/-- A delivered beat and the restart it lets take effect, in either order. -/
@[simp] theorem returnDelivered_pending (s : State) (w : Option Nat) (data : Word) :
    (s.returnDelivered w data).pending = s.pending :=
  ite_pending (ite_pending (s := s) (by simp) (by simp)) (readBeat_pending s w data)

theorem takeReturn_pending (s : State) (data : Word) (m : Mask) (cd : Bool) :
    (s.takeReturn data m cd).pending = s.pending := by
  unfold State.takeReturn
  split
  · rfl
  · exact ite_pending rfl (ite_pending (by simp) (by simp))

theorem takeUnplaced_pending (s : State) (data : Word) (m : Mask) (cd : Bool) :
    (s.takeUnplaced data m cd).pending = s.pending :=
  ite_pending rfl (ite_pending (by simp) (by simp))

/-! ### Time, channels, tiles and the commit -/

theorem staleExpiry_pending (s : State) (ch : Fin 4) : (s.staleExpiry ch).pending = s.pending := by
  rw [staleExpiry_frame]

theorem stallExpiry_pending (s : State) (f : Fin 8) : (s.stallExpiry f).pending = s.pending := by
  rw [stallExpiry_frame]

theorem silentExpiry_pending (s : State) (f : Fin 8) (i : Fin 32) : (s.silentExpiry f i).pending = s.pending := by
  rw [silentExpiry_frame]

theorem takeTick_pending (s : State) : s.takeTick.pending = s.pending := by rw [takeTick_frame]

theorem ms1_pending (s : State) : s.ms1.pending = s.pending := rfl

theorem goodFrame_pending (s : State) (ch : Fin 4) (code : Nat) (flag : Bool) :
    (s.goodFrame ch code flag).pending = s.pending := hand_pending _ _

theorem badSample_pending (s : State) (ch : Fin 4) : (s.badSample ch).pending = s.pending := hand_pending _ _

theorem goodTile_pending (s : State) (f : Fin 8) (i : Fin 32) (st : BitVec 4) (o t : Byte) :
    (s.goodTile f i st o t).pending = s.pending := hand_pending _ _

theorem switched_pending (s : State) : s.switched.pending = s.pending := by rw [switched_frame]; rfl

/-! ### Every command -/

/-- Settles O3: command by command, from what each shared operation leaves. -/
theorem commandsCompleteAndKeepTheQueue : Obligations.CommandsCompleteAndKeepTheQueue := by
  intro s c
  cases c with
  | powerOnReset => exact ⟨_, rfl, rfl⟩
  | resetLine => exact ⟨_, rfl, rfl⟩
  | resetRelease p => exact ⟨_, rfl, ite_pending rfl rfl⟩
  | suspend => exact ⟨_, rfl, ite_pending (by simp) rfl⟩
  | resume => exact ⟨_, rfl, ite_pending rfl rfl⟩
  | openBank b r => exact ⟨_, rfl, busCommand_pending s _ fun p => anomalyIf_pending p _ 2⟩
  | read b c auto => exact ⟨_, rfl, busCommand_pending s _ fun p => takeReadCommand_pending p b c auto⟩
  | write b c auto data m =>
    exact ⟨_, rfl, (busCommand_pending _ _ fun p => takeWriteCommand_pending p b c auto data m).trans
      (State.driveStore_pending s data m)⟩
  | close b => exact ⟨_, rfl, busCommand_pending s _ fun _ => rfl⟩
  | closeAll => exact ⟨_, rfl, busCommand_pending s _ fun _ => rfl⟩
  | refresh => exact ⟨_, rfl, busCommand_pending s _ takeRefresh_pending⟩
  | sleepEnter => exact ⟨_, rfl, (busCommand_pending _ _ takeSleep_pending).trans (passBegun_pending s _)⟩
  | sleepExit => exact ⟨_, rfl, ite_pending rfl (beginPosition_pending ((s.driveCommand .sleepExit).setStore .awake))⟩
  | modeLoad c => exact ⟨_, rfl, busCommand_pending s _ fun p => takeModeLoad_pending p c⟩
  | burstStop => exact ⟨_, rfl, busCommand_pending s _ fun _ => rfl⟩
  | noOperation => exact ⟨_, rfl, busCommand_pending s _ fun _ => rfl⟩
  | burstBeatIssue data m => exact ⟨_, rfl, burstCommand_pending s data m _⟩
  | burstComplete data m => exact ⟨_, rfl, burstCommand_pending s data m _⟩
  | readBeatReturn data m cd =>
    exact ⟨_, rfl, ite_pending rfl
      (ite_pending ((takeReturn_pending _ data m cd).trans (untilDue_pending s)) rfl)⟩
  | unplacedArrival data m cd =>
    exact ⟨_, rfl, ite_pending rfl
      (ite_pending ((takeUnplaced_pending _ data m cd).trans (passBegun_pending s _)) rfl)⟩
  | stagingWrite off data m => exact ⟨_, rfl, serviceWrite_pending s _ _ _⟩
  | timeWordWrite data m => exact ⟨_, rfl, serviceWrite_pending s _ _ _⟩
  | modeDeclaration data m => exact ⟨_, rfl, serviceWrite_pending s _ _ _⟩
  | commitRequest data m => exact ⟨_, rfl, serviceWrite_pending s _ _ _⟩
  | validationFailure =>
    refine ⟨_, rfl, ite_pending rfl ?_⟩
    split <;> rfl
  | switch => exact ⟨_, rfl, ite_pending rfl (switched_pending s)⟩
  | restartRequest data m => exact ⟨_, rfl, serviceWrite_pending s _ _ _⟩
  | monitorRestart => exact ⟨_, rfl, ite_pending rfl rfl⟩
  | run f up m => exact ⟨_, rfl, serviceWrite_pending s _ _ _⟩
  | hold f up m => exact ⟨_, rfl, serviceWrite_pending s _ _ _⟩
  | blank f up m => exact ⟨_, rfl, serviceWrite_pending s _ _ _⟩
  | dark f up m => exact ⟨_, rfl, serviceWrite_pending s _ _ _⟩
  | release f up m => exact ⟨_, rfl, serviceWrite_pending s _ _ _⟩
  | oneMsEvent => exact ⟨_, rfl, ite_pending rfl ((ms1_pending _).trans (settleTime_pending s))⟩
  | dimmingTick => exact ⟨_, rfl, ite_pending rfl (takeTick_pending s)⟩
  | sensorFrameArrival n0 n1 n2 n3 n4 n5 =>
    exact ⟨_, rfl, ite_pending rfl (ite_pending (goodFrame_pending s _ _ _) (badSample_pending s _))⟩
  | sensorIncompleteFrame => exact ⟨_, rfl, ite_pending rfl rfl⟩
  | staleTimerExpiry ch => exact ⟨_, rfl, ite_pending rfl (staleExpiry_pending s ch)⟩
  | stallTimerExpiry f => exact ⟨_, rfl, ite_pending rfl (stallExpiry_pending s f)⟩
  | tileFrameArrival b0 b1 b2 b3 b4 =>
    exact ⟨_, rfl, ite_pending rfl (ite_pending rfl (ite_pending rfl (goodTile_pending s _ _ _ _ _)))⟩
  | tileIncompleteFrame => exact ⟨_, rfl, ite_pending rfl rfl⟩
  | silentTimerExpiry f i => exact ⟨_, rfl, ite_pending rfl (silentExpiry_pending s f i)⟩
  | record =>
    refine ⟨_, rfl, ite_pending rfl ?_⟩
    split
    · simp
    · exact drain_pending s _
  | choice => exact ⟨_, rfl, ite_pending rfl rfl⟩
  | writeEnd => exact ⟨_, rfl, ite_pending rfl rfl⟩
  | acknowledgment k m => exact ⟨_, rfl, serviceWrite_pending s _ _ _⟩
  | slotInactive k m => exact ⟨_, rfl, serviceWrite_pending s _ _ _⟩
  | filterWrite k data m => exact ⟨_, rfl, serviceWrite_pending s _ _ _⟩
  | headerRead k => exact ⟨_, rfl, reportReadBeat_pending s _⟩
  | stampWordRead => exact ⟨_, rfl, reportReadBeat_pending s _⟩
  | reservedWrite off data m => exact ⟨_, rfl, serviceWrite_pending s _ _ _⟩

end Sys2Proof.Machine
end
